-- ==== Sys2Proof/Word.lean ====
section
/-!
DEFINITION. The bit-vector widths of LSBF (00_scope.md R5, R6): every value of the block is unsigned, bit 0 is the least
significant bit, and sums and products are taken modulo the width.
-/
namespace Sys2Proof

/-- A Word: "a 64-bit unsigned integer" (00_scope.md R5 `W`, R6). -/
abbrev Word := BitVec 64

/-- A table index, and a table entry: 6 bits each (00_scope.md R5 `IDX_W`, `T_W`). -/
abbrev Index := BitVec 6

/-- An operation code, `req_op` (00_scope.md R5 `OP_W`). -/
abbrev OpCode := BitVec 3

/-- A response error code, `rsp_err` (00_scope.md R5 `ERR_W`). -/
abbrev ErrCode := BitVec 2

/-- The scan counter and the result of either algorithm: 7 bits (00_scope.md R5 `RES_W`; 10_state.md R13). -/
abbrev Count := BitVec 7

/-- A request word `REQ` with op in bits 66:64 and data in bits 63:0 (30_encoding.md R50). -/
abbrev ReqWord := BitVec 67

/-- A response word `RSP` with err in bits 65:64 and data in bits 63:0 (30_encoding.md R51). -/
abbrev RspWord := BitVec 66

end Sys2Proof
end

