-- ==== Sys2Proof/Syntax.lean ====
section
/-!
DEFINITION. The requests of LSBF as terms, one constructor per row of spec/opcode_table.json (30_encoding.md R52, R53). The bits
an operation ignores are kept as a field, so that a request word and its term determine each other and "no effect" is a
statement about the machine, not about the decoder (log entry 10).
-/
namespace Sys2Proof

/-- One request (30_encoding.md R52). -/
inductive Instr where
  /-- `LSBMUL w`, op = 0 (40_lsbmul.md R70). -/
  | lsbmul (w : Word)
  /-- `LSBSCAN w`, op = 1 (41_lsbscan.md R90). -/
  | lsbscan (w : Word)
  /-- `ROMT i`, op = 2: `i = data[5:0]`, and `ignored = data[63:6]` (42_rom_ops.md R110; 30_encoding.md R53). -/
  | romt (ignored : BitVec 58) (i : Index)
  /-- `ROMC`, op = 3: all of `data` is ignored (42_rom_ops.md R111). -/
  | romc (ignored : Word)
  /-- `RSVD k, d`: op = k, a reserved code, and `data` ignored (30_encoding.md R56, R58; 60_exceptions.md R122). -/
  | rsvd (op : OpCode) (ignored : Word)
  deriving DecidableEq, Repr

end Sys2Proof
end

