-- ==== Sys2Proof/WellFormed.lean ====
section
/-!
DEFINITION. Which request terms are requests (30_encoding.md R52, R58). The field widths are in the types; the one relation they
do not carry is that the code of a reserved request is one of 4, 5, 6, 7.
-/
namespace Sys2Proof

/-- A code is reserved exactly when `op[2] = 1`, that is when it is 4, 5, 6 or 7 (30_encoding.md R52, R56). -/
def OpCode.reserved (op : OpCode) : Bool := op.getLsbD 2

/-- The reserved request carries a reserved code; every other term is well formed as it stands (30_encoding.md R58). -/
def Instr.wf : Instr → Bool
  | .lsbmul _ => true
  | .lsbscan _ => true
  | .romt _ _ => true
  | .romc _ => true
  | .rsvd op _ => OpCode.reserved op

end Sys2Proof
end

