-- ==== Sys2Proof/Decode.lean ====
section
/-!
DEFINITION. Decoding a request word and encoding a request, both from the one format `REQ` with op in bits 66:64 and data in bits
63:0 (30_encoding.md R50) and the opcode map (30_encoding.md R52). Every 67-bit word is a request; only a number that does not
fit the 67 wires is rejected.
-/
namespace Sys2Proof

/-- The `op` field, bits 66:64 (30_encoding.md R50). -/
def reqOpField (r : ReqWord) : OpCode := r.extractLsb' 64 3

/-- The `data` field, bits 63:0 (30_encoding.md R50). -/
def reqDataField (r : ReqWord) : Word := r.extractLsb' 0 64

/-- `REQ` from its two fields (30_encoding.md R50). -/
def reqWord (op : OpCode) (data : Word) : ReqWord := op ++ data

/-- The table index of a `ROMT` request: `data[5:0]` (30_encoding.md R53). -/
def romtIndexField (data : Word) : Index := data.extractLsb' 0 6

/-- The bits of a `ROMT` request that have no effect: `data[63:6]` (30_encoding.md R53). -/
def romtIgnoredField (data : Word) : BitVec 58 := data.extractLsb' 6 58

/-- The request that a code and its data stand for: `op` first, a reserved code whatever its data (30_encoding.md R52, R57). -/
def decodeFields (op : OpCode) (data : Word) : Instr :=
  if OpCode.reserved op then .rsvd op data
  else if op = 0 then .lsbmul data
  else if op = 1 then .lsbscan data
  else if op = 2 then .romt (romtIgnoredField data) (romtIndexField data)
  else .romc data

/-- The request a 67-bit word stands for (30_encoding.md R50, R52). -/
def decode (r : ReqWord) : Instr := decodeFields (reqOpField r) (reqDataField r)

/-- Why a number is no request word. -/
inductive DecodeError where
  /-- It has a bit above bit 66, and the port has no wire for it (30_encoding.md R50: "fixed length 67 bits"). Safe. -/
  | widerThanRequest
  deriving DecidableEq, Repr

/-- Decoding a number: rejected by name above 67 bits, else the request it stands for. -/
def decodeNat (w : Nat) : Except DecodeError Instr :=
  if w < 2 ^ 67 then .ok (decode (BitVec.ofNat 67 w)) else .error .widerThanRequest

/-- What the decoder reads from the low `nbits` bits of `w`, bit 0 being `req_data[0]` and bits 66:64 `req_op` (the table's
numbering). -/
def decodeTableWord (nbits w : Nat) : Option Instr :=
  match decodeNat (w % 2 ^ nbits) with
  | .ok i => some i
  | .error _ => none

/-- The operation code of a request (30_encoding.md R52). -/
def Instr.opCode : Instr → OpCode
  | .lsbmul _ => 0
  | .lsbscan _ => 1
  | .romt _ _ => 2
  | .romc _ => 3
  | .rsvd op _ => op

/-- The data word of a request (30_encoding.md R53). -/
def Instr.dataWord : Instr → Word
  | .lsbmul w => w
  | .lsbscan w => w
  | .romt ignored i => ignored ++ i
  | .romc ignored => ignored
  | .rsvd _ ignored => ignored

/-- The request word of a request (30_encoding.md R50, R58). -/
def encode (i : Instr) : ReqWord := reqWord i.opCode i.dataWord

end Sys2Proof
end

