-- ==== Sys2Proof/Machine/Ports.lean ====
section
/-!
DEFINITION. The input pins of the block, as the requester holds them at one rising clock edge (10_state.md R17). The clock itself is
the step.
-/
namespace Sys2Proof.Machine

/-- The values of the input pins at one rising edge (10_state.md R17). -/
structure Pins where
  /-- `rst`, synchronous, active high. -/
  rst : Bool
  /-- `req_valid`. -/
  reqValid : Bool
  /-- `req_op`, 3 bits. -/
  reqOp : OpCode
  /-- `req_data`, 64 bits. -/
  reqData : Word
  deriving DecidableEq, Repr

/-- A silent requester: no reset and no request. -/
def Pins.idle : Pins := { rst := false, reqValid := false, reqOp := 0, reqData := 0 }

/-- The pseudo-request `RESET`: `rst = 1` for one clock edge (30_encoding.md R59). -/
def Pins.reset : Pins := { rst := true, reqValid := false, reqOp := 0, reqData := 0 }

/-- The pins that show a given request word (30_encoding.md R50). -/
def Pins.ofWord (r : ReqWord) : Pins :=
  { rst := false, reqValid := true, reqOp := reqOpField r, reqData := reqDataField r }

/-- The pins that show a given request (30_encoding.md R50, R58). -/
def Pins.ofInstr (i : Instr) : Pins := Pins.ofWord (encode i)

/-- The request the pins show (30_encoding.md R50: "A request is the pair of pin values"). -/
def Pins.request (p : Pins) : Instr := decode (reqWord p.reqOp p.reqData)

end Sys2Proof.Machine
end

