-- ==== Sys2Proof/Config.lean ====
section
/-!
DEFINITION. What is fixed when the block is built (00_scope.md R5): the numeric parameters the source gives, and the one
parameter it leaves open, the De Bruijn constant.
-/
namespace Sys2Proof

/-- `SH`: the right shift that leaves the top 6 bits of a product (00_scope.md R5; 40_lsbmul.md R73). -/
def Config.indexShift : Nat := 58

/-- `SCAN_CNT0`: where the scan counter starts (00_scope.md R5; 41_lsbscan.md R91). -/
def Config.scanCount0 : Count := 1

/-- `SCAN_MASK0`: where the scan mask starts, bit 0 (00_scope.md R5; 41_lsbscan.md R91). -/
def Config.scanMask0 : Word := 1

/-- `SCAN_MAX_TESTS`: the most tests a scan of a nonzero Word makes (00_scope.md R5; 90_conflicts.md C2). -/
def Config.scanMaxTests : Nat := 64

/-- DESIGN CHOICE, safe (log entry 1). The 64-bit value a builder proposes as the De Bruijn constant. The source gives it no
value (00_scope.md R5: `C` is OPEN), so it has no body here and nothing can be proved about which value it is. -/
opaque Config.openConstant : Word

/-- `C0`, the spec's default "for examples and tests only" (20_memory.md R35). The model uses it in its tests, and as the
constant that stands in where the open one is not a valid constant (log entry 1). -/
def Config.defaultConstant : Word := 0x03F79D71B4CB0A89

end Sys2Proof
end

