-- ==== Sys2Proof/Machine/Rom.lean ====
section
/-!
DEFINITION. The De Bruijn ROM `U_ROM` (20_memory.md): the constant, the table, the predicate that makes a constant valid, the
derivation of the table from it, and the one read. It is the block's only memory; nothing writes it (20_memory.md R30, R36).
-/
namespace Sys2Proof.Machine

/-- The top 6 bits of a 64-bit product: the logical right shift by 58 (40_lsbmul.md R73; 20_memory.md R32). -/
def topIndex (prod : Word) : Index := (prod >>> Config.indexShift).setWidth 6

/-- `idx_C(b) = (((1 << b) * C) mod 2^64) >> 58`, the De Bruijn index of bit position `b` (20_memory.md R32). -/
def deBruijnIndex (c : Word) (b : Nat) : Index := topIndex ((1#64 <<< b) * c)

/-- The bit positions 0..63, in order. -/
def bitPositions : List Nat := List.range 64

/-- `ValidC(C)`: the 64 indices are pairwise different, and index 0 belongs to bit 0 (20_memory.md R32). -/
def validConstant (c : Word) : Bool :=
  decide ((bitPositions.map (deBruijnIndex c)).Nodup) && decide (deBruijnIndex c 0 = 0)

/-- One turn of the loop of 20_memory.md R33: `T[idx_C(b)] = b`. -/
def recordPosition (c : Word) (t : Vector Index 64) (b : Nat) : Vector Index 64 :=
  t.set (deBruijnIndex c b).toNat (BitVec.ofNat 6 b) (deBruijnIndex c b).isLt

/-- The table that the loop of 20_memory.md R33 derives from a constant. Entries the loop has not written yet are 0; for a valid
constant it writes every one. -/
def deriveTable (c : Word) : Vector Index 64 :=
  bitPositions.foldl (recordPosition c) (Vector.replicate 64 0)

/-- The contents of `U_ROM`: the unaddressed constant `C` and the 64 entries of `T` (10_state.md R12; 20_memory.md R30). -/
structure Memory where
  /-- `C`, 64 bits. -/
  constant : Word
  /-- `T[0..63]`, 6 bits each. -/
  table : Vector Index 64
  deriving DecidableEq, Repr

/-- The table read `T[i]`: total, and without side effect (20_memory.md R31). -/
def Memory.read (m : Memory) (i : Index) : Index := m.table[i.toNat]'i.isLt

/-- The ROM built from a constant (20_memory.md R33, R36). -/
def Memory.build (c : Word) : Memory := { constant := c, table := deriveTable c }

/-- The form every ROM of this spec has: a valid constant and the table derived from it (20_memory.md R32, R33). The table is a
vector of exactly 64 entries, so two ROMs with equal contents are equal data (log entry 7). -/
def Memory.wf (m : Memory) : Bool := validConstant m.constant && decide (m.table = deriveTable m.constant)

/-- DESIGN CHOICE, safe (log entry 1). The constant the block is built with: the open one, which may be any valid constant; where
the open value is not valid, no block of this spec has it, and the default stands in. -/
def builtConstant : Word :=
  if validConstant Config.openConstant then Config.openConstant else Config.defaultConstant

end Sys2Proof.Machine
end

