-- ==== Sys2Proof/Machine/State.lean ====
section
/-!
DEFINITION. The state of one LSBF block: every entry of the table of 10_state.md R10, the pins the requester will show (the model's
own field, log entry 3), the reasons a step can stop, and the state after reset (10_state.md R20).
-/
namespace Sys2Proof.Machine

/-- One LSBF block and what its requester will show it (10_state.md R10). -/
structure State where
  /-- `C` and `T[0..63]`, `U_ROM`: immutable (10_state.md R12). -/
  rom : Memory
  /-- `scan_w`, the operand latch of `U_SCAN` (10_state.md R13). -/
  scanW : Word
  /-- `scan_mask` (10_state.md R13). -/
  scanMask : Word
  /-- `scan_cnt` (10_state.md R13). -/
  scanCnt : Count
  /-- `busy`: a scan is in flight (10_state.md R14). -/
  busy : Bool
  /-- `flt_zero`, sticky (10_state.md R15). -/
  fltZero : Bool
  /-- `flt_op`, sticky (10_state.md R15). -/
  fltOp : Bool
  /-- `rsp_valid` (10_state.md R16). -/
  rspValid : Bool
  /-- `rsp_data` (10_state.md R16). -/
  rspData : Word
  /-- `rsp_err` (10_state.md R16). -/
  rspErr : ErrCode
  /-- DESIGN CHOICE, safe (log entry 3). The model's own field: the pin values at the coming edges, the next edge first. Past its
  end the requester is silent. -/
  inputs : List Pins
  deriving DecidableEq, Repr

/-- Why the machine stops with a fault: never. The block's two faults, `ERR_ZERO` and `ERR_OP`, are responses after which it goes
on (60_exceptions.md R120, R126), so they are next states, and 60_exceptions.md R123 lists no other (log entry 9). -/
inductive Fault where
  deriving DecidableEq, Repr

/-- Why the machine gives an instruction no meaning. -/
inductive Refusal where
  /-- Raised by an arm of `exec` whose instruction has no meaning yet; no arm raises it now. Safe. -/
  | notModelled (mnemonic : String)
  deriving DecidableEq, Repr

/-- Every register at its reset value, around a given ROM and requester (10_state.md R20: "`C` and `T` are not touched by reset"). -/
def State.resetWith (rom : Memory) (inputs : List Pins) : State :=
  { rom := rom, scanW := 0, scanMask := 1, scanCnt := 1, busy := false, fltZero := false, fltOp := false,
    rspValid := false, rspData := 0, rspErr := 0, inputs := inputs }

/-- The block right after its reset edge (10_state.md R20, R21), built with the open constant (log entry 1) and with a silent
requester (log entry 3). -/
def State.reset : State := State.resetWith (Memory.build builtConstant) []

end Sys2Proof.Machine
end

