-- ==== Sys2Proof/Machine/Flags.lean ====
section
/-!
DEFINITION. The error codes of a response (30_encoding.md R55) and the two sticky fault flags (10_state.md R15). The block has no
arithmetic condition codes.
-/
namespace Sys2Proof.Machine

/-- `ERR_NONE` (30_encoding.md R55). -/
def errNone : ErrCode := 0

/-- `ERR_ZERO` (30_encoding.md R55). -/
def errZero : ErrCode := 1

/-- `ERR_OP` (30_encoding.md R55). -/
def errOp : ErrCode := 2

/-- The two errors a request can raise (60_exceptions.md R123: "`ERR_ZERO` and `ERR_OP`, no other"). -/
inductive ErrorKind where
  /-- A zero operand of `LSBMUL` or `LSBSCAN` (60_exceptions.md R121). -/
  | zeroOperand
  /-- A reserved operation code (60_exceptions.md R122). -/
  | reservedOp
  deriving DecidableEq, Repr

/-- The code of an error in `rsp_err` (30_encoding.md R55). -/
def ErrorKind.code : ErrorKind → ErrCode
  | .zeroOperand => errZero
  | .reservedOp => errOp

/-- Set the sticky flag of an error; the other one keeps its value (60_exceptions.md R120). -/
def State.setFlag (s : State) : ErrorKind → State
  | .zeroOperand => { s with fltZero := true }
  | .reservedOp => { s with fltOp := true }

end Sys2Proof.Machine
end

