-- ==== Sys2Proof/Machine/Operands.lean ====
section
/-!
DEFINITION. The operand check and the assembly of results (30_encoding.md R53, R54, R57). Every value is unsigned and extended with
zeros.
-/
namespace Sys2Proof.Machine

/-- The operand check of `LSBMUL` and `LSBSCAN`: `data = 0` (30_encoding.md R57). -/
def operandIsZero (w : Word) : Bool := w == 0

/-- `zext_64` of a 7-bit result (30_encoding.md R54). -/
def countToData (k : Count) : Word := k.setWidth 64

/-- `zext_64` of a 6-bit table entry (30_encoding.md R54). -/
def entryToData (e : Index) : Word := e.setWidth 64

end Sys2Proof.Machine
end

