-- ==== Sys2Proof/Machine/Ops.lean ====
section
/-!
DEFINITION. The named operations of the block: answering a request, raising an error (the block's one exception mechanism), an edge
without a response, and reset. There is no return from an exception: "There is no return operation and nothing to restore"
(60_exceptions.md R126).
-/
namespace Sys2Proof.Machine

/-- `respond(data, err)` (10_state.md R16). -/
def State.respond (s : State) (data : Word) (err : ErrCode) : State :=
  { s with rspData := data, rspErr := err, rspValid := true }

/-- An edge where no `respond` happens: `rsp_valid <- 0`, the rest keeps its value (10_state.md R16). -/
def State.noResponse (s : State) : State := { s with rspValid := false }

/-- `raise ERR_X`: `respond(0, ERR_X)` and the sticky flag of the error; nothing else changes (60_exceptions.md R120). -/
def State.raise (s : State) (k : ErrorKind) : State := (s.respond 0 k.code).setFlag k

/-- The reset edge: every register takes its reset value, the ROM is not affected (70_reset_and_hazards.md R140). -/
def State.resetRegisters (s : State) : State := State.resetWith s.rom s.inputs

/-- `req_ready`, the inverse of `busy` (10_state.md R14). -/
def State.reqReady (s : State) : Bool := !s.busy

end Sys2Proof.Machine
end

