-- ==== Sys2Proof/Machine/LsbMul.lean ====
section
/-!
DEFINITION. `LSBMUL` and the unit `U_MUL`, the De Bruijn multiply-and-lookup path (40_lsbmul.md). `mulPath` is a pure function of the
operand and the ROM.
-/
namespace Sys2Proof.Machine

/-- `neg64(w) = (2^64 - w) mod 2^64` (40_lsbmul.md R71, R79). -/
def neg64 (w : Word) : Word := BitVec.ofNat 64 (2 ^ 64 - w.toNat)

/-- `iso = w & neg64(w)` (40_lsbmul.md R71). -/
def isolate (w : Word) : Word := w &&& neg64 w

/-- `prod = (iso * C) mod 2^64` (40_lsbmul.md R72). -/
def deBruijnProduct (m : Memory) (w : Word) : Word := isolate w * m.constant

/-- `idx = prod[63:58]` (40_lsbmul.md R73). -/
def mulIndex (m : Memory) (w : Word) : Index := topIndex (deBruijnProduct m w)

/-- `res = zext_7(pos0) + 1`, in 7 bits (40_lsbmul.md R75). -/
def oneIndexed (pos0 : Index) : Count := pos0.setWidth 7 + 1

/-- `MulPath(w)`, the unit `U_MUL`: isolate, multiply, index, look up, add 1 (40_lsbmul.md R70). Total: also at 0 (R77). -/
def mulPath (m : Memory) (w : Word) : Count := oneIndexed (m.read (mulIndex m w))

/-- `LSBMUL w`: a zero operand raises `ERR_ZERO`; any other answers `MulPath(w)` at the acceptance edge (40_lsbmul.md R70). -/
def execLsbmul (w : Word) (s : State) : Host.Outcome State Fault Refusal :=
  if operandIsZero w then .next (s.raise .zeroOperand)
  else .next (s.respond (countToData (mulPath s.rom w)) errNone)

end Sys2Proof.Machine
end

