-- ==== Sys2Proof/Machine/LsbScan.lean ====
section
/-!
DEFINITION. `LSBSCAN` and the unit `U_SCAN`, the linear scan from bit 0 (41_lsbscan.md): the start of a scan, one iteration, and the
whole scan as the transaction level sees it.
-/
namespace Sys2Proof.Machine

/-- The start of a scan: all three registers written, `busy` set, no test and no response (41_lsbscan.md R91). -/
def State.startScan (s : State) (w : Word) : State :=
  { s with scanW := w, scanMask := Config.scanMask0, scanCnt := Config.scanCount0, busy := true, rspValid := false }

/-- The test of one iteration, `(scan_w & scan_mask) != 0` (41_lsbscan.md R92). -/
def State.scanHit (s : State) : Bool := s.scanW &&& s.scanMask != 0

/-- An iteration whose test succeeds: the counter is the answer, and the scan ends (41_lsbscan.md R92). -/
def State.endScan (s : State) : State := { s.respond (countToData s.scanCnt) errNone with busy := false }

/-- An iteration whose test fails: count (modulo 128) and shift the mask (41_lsbscan.md R92, R97). -/
def State.advanceScan (s : State) : State :=
  { s with scanCnt := s.scanCnt + 1, scanMask := s.scanMask <<< 1, rspValid := false }

/-- `ScanStep`: exactly one test (41_lsbscan.md R92). -/
def State.scanStep (s : State) : State := if s.scanHit then s.endScan else s.advanceScan

/-- `LSBSCAN w`: a zero operand raises `ERR_ZERO`; any other starts a scan, which answers at a later edge (41_lsbscan.md R90, R91). -/
def execLsbscan (w : Word) (s : State) : Host.Outcome State Fault Refusal :=
  if operandIsZero w then .next (s.raise .zeroOperand) else .next (s.startScan w)

/-- The `while` loop of `ScanPath` (41_lsbscan.md R90), stopped after `n` tests. -/
def scanLoop : Nat → Word → Word → Count → Option Count
  | 0, _, _, _ => none
  | n + 1, w, mask, cnt => if w &&& mask != 0 then some cnt else scanLoop n w (mask <<< 1) (cnt + 1)

/-- `ScanPath(w)`, the unit `U_SCAN` as a function: `none` where the loop finds no set bit in the 64 tests that cover the Word, that
is where the unit would never finish (41_lsbscan.md R90, R96; log entry 15). -/
def scanPath (w : Word) : Option Count := scanLoop Config.scanMaxTests w Config.scanMask0 Config.scanCount0

end Sys2Proof.Machine
end

