-- ==== Sys2Proof/Machine/Reserved.lean ====
section
/-!
DEFINITION. The reserved operation codes (30_encoding.md R56; 60_exceptions.md R122): never a no-op, never a default operation.
-/
namespace Sys2Proof.Machine

/-- A reserved code starts no unit, reads nothing and raises `ERR_OP` whatever its data (60_exceptions.md R122). -/
def execRsvd (_op : OpCode) (_ignored : Word) (s : State) : Host.Outcome State Fault Refusal :=
  .next (s.raise .reservedOp)

end Sys2Proof.Machine
end

