-- ==== Sys2Proof/Machine/RomOps.lean ====
section
/-!
DEFINITION. `ROMT` and `ROMC`, the ROM read operations (42_rom_ops.md). Neither has an operand check, and neither can fault.
-/
namespace Sys2Proof.Machine

/-- `ROMT i` answers the table entry `T[i]`; `data[63:6]` has no effect (42_rom_ops.md R110). -/
def execRomt (_ignored : BitVec 58) (i : Index) (s : State) : Host.Outcome State Fault Refusal :=
  .next (s.respond (entryToData (s.rom.read i)) errNone)

/-- `ROMC` answers the constant `C`; `data` has no effect (42_rom_ops.md R111). -/
def execRomc (_ignored : Word) (s : State) : Host.Outcome State Fault Refusal :=
  .next (s.respond s.rom.constant errNone)

end Sys2Proof.Machine
end

