-- ==== Sys2Proof/Machine/Dispatch.lean ====
section
/-!
DEFINITION. What a request does at the edge that accepts it: one arm per row of spec/opcode_table.json.
-/
namespace Sys2Proof.Machine

/-- What each request does to the state at its acceptance edge (30_encoding.md R52, R57). -/
def exec (i : Instr) (s : State) : Host.Outcome State Fault Refusal :=
  match i with
  | .lsbmul w => Sys2Proof.Machine.execLsbmul w s
  | .lsbscan w => Sys2Proof.Machine.execLsbscan w s
  | .romt ignored idx => Sys2Proof.Machine.execRomt ignored idx s
  | .romc ignored => Sys2Proof.Machine.execRomc ignored s
  | .rsvd op ignored => Sys2Proof.Machine.execRsvd op ignored s

end Sys2Proof.Machine
end

