-- ==== Sys2Proof/Machine/Edge.lean ====
section
/-!
DEFINITION. One rising clock edge of the whole block (70_reset_and_hazards.md R151), given the pin values at that edge, and how the
model takes those values from the requester's list.
-/
namespace Sys2Proof.Machine

/-- The pins at the coming edge: the head of the list, or those of a silent requester past its end (log entry 3). -/
def State.pins (s : State) : Pins := s.inputs.headD Pins.idle

/-- The requester moves on to the pins of the edge after. -/
def State.nextPins (s : State) : State := { s with inputs := s.inputs.tail }

/-- A request is accepted where `rst = 0`, `req_valid = 1` and `req_ready = 1` (10_state.md R17; 70_reset_and_hazards.md R146). -/
def accepts (p : Pins) (s : State) : Bool := !p.rst && p.reqValid && s.reqReady

/-- `Edge(rst, req_valid, req_op, req_data)`: reset first, then a running scan, then the request on the pins, else idle
(70_reset_and_hazards.md R151). -/
def edge (p : Pins) (s : State) : Host.Outcome State Fault Refusal :=
  if p.rst then .next s.resetRegisters
  else if s.busy then .next s.scanStep
  else if p.reqValid then exec p.request s
  else .next s.noResponse

end Sys2Proof.Machine
end

