-- ==== Sys2Proof/Machine/Step.lean ====
section
/-!
DEFINITION. One step of the machine: one rising clock edge with the pins the requester shows at it (70_reset_and_hazards.md R151), and
how a request word is put before the machine.
-/
namespace Sys2Proof.Machine

/-- One clock edge: the requester's pins are taken, and the block makes its edge with them. -/
def step (s : State) : Host.Outcome State Fault Refusal := edge s.pins s.nextPins

/-- The state in which the next edge accepts the request word `w mod 2^nbits`: its pins come first in the requester's list, and no
scan is in flight, so that `req_ready = 1` (10_state.md R17; log entry 3). A number wider than a request word is no request and
leaves the state as it is. -/
def State.withFetchWord (s : State) (nbits w : Nat) : State :=
  if w % 2 ^ nbits < 2 ^ 67 then
    { s with busy := false, inputs := Pins.ofWord (BitVec.ofNat 67 (w % 2 ^ nbits)) :: s.inputs }
  else s

end Sys2Proof.Machine
end

