-- ==== Sys2Proof/Machine/Blocks.lean ====
section
/-!
DEFINITION. Several LSBF blocks side by side (60_exceptions.md R131): a list of blocks, one of which steps at a time. They share no
state and exchange no signals (log entry 14).
-/
namespace Sys2Proof.Machine

/-- Block number `k` makes one edge, the others none; where there is no block `k`, nothing happens. -/
def stepBlock (bs : List State) (k : Nat) : Host.Outcome (List State) Fault Refusal :=
  match bs[k]? with
  | none => .next bs
  | some s =>
    match step s with
    | .next t => .next (bs.set k t)
    | .fault r => .fault r
    | .refused r => .refused r

end Sys2Proof.Machine
end

