-- ==== Sys2Proof/Machine/Outputs.lean ====
section
/-!
DEFINITION. What the requester sees: the output pins (10_state.md R17) and the response word (30_encoding.md R51).
-/
namespace Sys2Proof.Machine

/-- The output pins of the block (10_state.md R17). -/
structure OutPins where
  reqReady : Bool
  rspValid : Bool
  rspData : Word
  rspErr : ErrCode
  busy : Bool
  fltZero : Bool
  fltOp : Bool
  deriving DecidableEq, Repr

/-- The output pins during the cycle after an edge (10_state.md R17): no scan register is among them (R13). -/
def State.outputs (s : State) : OutPins :=
  { reqReady := s.reqReady, rspValid := s.rspValid, rspData := s.rspData, rspErr := s.rspErr,
    busy := s.busy, fltZero := s.fltZero, fltOp := s.fltOp }

/-- One response: data and error code (10_state.md R19). -/
structure Response where
  data : Word
  err : ErrCode
  deriving DecidableEq, Repr

/-- `RSP` with err in bits 65:64 and data in bits 63:0 (30_encoding.md R51). -/
def Response.word (r : Response) : RspWord := r.err ++ r.data

/-- The new response on the pins, if there is one: only while `rsp_valid = 1` (70_reset_and_hazards.md R147). -/
def State.response (s : State) : Option Response :=
  if s.rspValid then some { data := s.rspData, err := s.rspErr } else none

end Sys2Proof.Machine
end

