-- ==== Sys2Proof/Machine/Requester.lean ====
section
/-!
DEFINITION. The block together with the simplest host that keeps the handshake (70_reset_and_hazards.md R146, R147; 95_test_vectors.md
section 3): it shows the next request of its script until it is accepted, then the one after, and takes every response in the
cycle where it appears (log entry 13).
-/
namespace Sys2Proof.Machine

/-- A block, the requests its host has not issued yet, and the responses the host has taken, oldest first. -/
structure HostedBlock where
  block : State
  script : List Instr
  taken : List Response
  deriving DecidableEq, Repr

/-- What the simplest host shows: the next request of its script, or nothing (95_test_vectors.md section 3). -/
def HostedBlock.pins (h : HostedBlock) : Pins :=
  match h.script with
  | [] => Pins.idle
  | i :: _ => Pins.ofInstr i

/-- One clock edge of the block and its host: a request counts as issued at the edge that accepts it (70_reset_and_hazards.md R146),
and a response is taken in the cycle that follows its edge (R147). -/
def HostedBlock.step (h : HostedBlock) : Host.Outcome HostedBlock Fault Refusal :=
  match edge h.pins h.block with
  | .next t =>
    .next { block := t
            script := if accepts h.pins h.block then h.script.tail else h.script
            taken := h.taken ++ t.response.toList }
  | .fault r => .fault r
  | .refused r => .refused r

/-- `n` edges of the block and its host. -/
def HostedBlock.run : Nat → HostedBlock → Host.Outcome HostedBlock Fault Refusal
  | 0, h => .next h
  | n + 1, h =>
    match h.step with
    | .next h' => HostedBlock.run n h'
    | .fault r => .fault r
    | .refused r => .refused r

end Sys2Proof.Machine
end

