-- ==== Sys2Proof/Machine/Run.lean ====
section
/-!
DEFINITION. Several edges of the machine in a row, with the pins the requester's list shows at each.
-/
namespace Sys2Proof.Machine

/-- `n` edges, stopping at the first fault or refusal. -/
def edges : Nat → State → Host.Outcome State Fault Refusal
  | 0, s => .next s
  | n + 1, s =>
    match step s with
    | .next t => edges n t
    | .fault r => .fault r
    | .refused r => .refused r

end Sys2Proof.Machine
end

