-- ==== Sys2Proof/Machine/Transaction.lean ====
section
/-!
DEFINITION. The transaction level of 10_state.md R19: one total step per accepted request over the two sticky flags, with the ROM as
configuration; the latency table (70_reset_and_hazards.md R150); and the pseudo-requests with the host's verdicts on them
(30_encoding.md R59; 70_reset_and_hazards.md R144).
-/
namespace Sys2Proof.Machine

/-- The state at transaction level: `(flt_zero, flt_op)` (10_state.md R19). -/
structure Flags where
  zero : Bool
  op : Bool
  deriving DecidableEq, Repr

/-- The flags of a block. -/
def State.flags (s : State) : Flags := { zero := s.fltZero, op := s.fltOp }

/-- The response of an error: data 0 and its code (60_exceptions.md R120). -/
def errorResponse (k : ErrorKind) : Response := { data := 0, err := k.code }

/-- The flags after an error (60_exceptions.md R120). -/
def Flags.set (f : Flags) : ErrorKind → Flags
  | .zeroOperand => { f with zero := true }
  | .reservedOp => { f with op := true }

/-- The error a request raises, if any: `op` first, then the operand of `LSBMUL` and `LSBSCAN` (30_encoding.md R57). -/
def requestError : Instr → Option ErrorKind
  | .lsbmul w => if operandIsZero w then some .zeroOperand else none
  | .lsbscan w => if operandIsZero w then some .zeroOperand else none
  | .romt _ _ => none
  | .romc _ => none
  | .rsvd _ _ => some .reservedOp

/-- The value of a request that raises no error; none where the unit alone would never finish (30_encoding.md R54; 41_lsbscan.md
R96). -/
def requestValue (m : Memory) : Instr → Option Word
  | .lsbmul w => some (countToData (mulPath m w))
  | .lsbscan w => (scanPath w).map countToData
  | .romt _ i => some (entryToData (m.read i))
  | .romc _ => some m.constant
  | .rsvd _ _ => none

/-- The response of a request, from the request and the ROM alone (20_memory.md R40 (ii)). -/
def respondTo (m : Memory) (i : Instr) : Option Response :=
  match requestError i with
  | some k => some (errorResponse k)
  | none => (requestValue m i).map fun v => { data := v, err := errNone }

/-- The flags after a request (20_memory.md R40 (iii)). -/
def flagsAfter (f : Flags) (i : Instr) : Flags :=
  match requestError i with
  | some k => f.set k
  | none => f

/-- The step of the transaction level, `Step : Config -> State -> Request -> State x Response` (10_state.md R19). -/
def transact (m : Memory) (f : Flags) (i : Instr) : Flags × Option Response := (flagsAfter f i, respondTo m i)

/-- The edge, counted from the acceptance edge 0, that writes the response (70_reset_and_hazards.md R150): `k` for a scan whose
result is `k`, else 0. It is also the number of cycles `busy` is high. -/
def responseEdge : Instr → Nat
  | .lsbmul _ => 0
  | .lsbscan w => if operandIsZero w then 0 else ((scanPath w).map BitVec.toNat).getD 0
  | .romt _ _ => 0
  | .romc _ => 0
  | .rsvd _ _ => 0

/-- `ROMT i` as a script writes it (30_encoding.md R58). -/
def romtRequest (i : Nat) : Instr := .romt 0 (BitVec.ofNat 6 i)

/-- The pseudo-request `LSBBOTH w` (30_encoding.md R59). -/
def lsbBoth (w : Word) : List Instr := [.lsbmul w, .lsbscan w]

/-- The pseudo-request `ROMDUMP`, which `ROMCHECK` also expands to (30_encoding.md R59). -/
def romDump : List Instr := .romc 0 :: bitPositions.map romtRequest

/-- The host's verdict on the two responses of `LSBBOTH` (30_encoding.md R59). -/
def lsbBothAgrees : List Response → Bool
  | [a, b] => a.data == b.data
  | _ => false

/-- The host's verdict on the 65 responses of `ROMCHECK`: with `C` from the first, `T[idx_C(b)] = b` for every `b` in 0..63
(30_encoding.md R59; 70_reset_and_hazards.md R144). -/
def romCheckPasses : List Response → Bool
  | c :: entries =>
    entries.length == 64 &&
      bitPositions.all fun b =>
        (entries[(deBruijnIndex c.data b).toNat]?).map Response.data == some (BitVec.ofNat 64 b)
  | [] => false

end Sys2Proof.Machine
end

