-- ==== Sys2Proof/Safety.lean ====
section
/-!
DEFINITION. The words claims are made in: the lowest set bit of a Word, the invariant of the machine, a run without a recorded fault,
and the requester's contract.
-/
namespace Sys2Proof

/-- `b` is the position of the lowest set bit of `w`, "the least-significant bit position that is 1" (00_scope.md R6): what the
spec's notation `ctz(w)` names for `w != 0`. -/
def LowestSet (w : Word) (b : Nat) : Prop :=
  b < 64 ∧ w.getLsbD b = true ∧ ∀ j, j < b → w.getLsbD j = false

/-- What holds before each test of a running scan (41_lsbscan.md R94 (i), (ii), (iii)). -/
structure ScanInv (s : Machine.State) : Prop where
  /-- (i) the mask is the bit the counter points at. -/
  mask : s.scanMask = 1#64 <<< (s.scanCnt.toNat - 1)
  /-- (ii) the bits tested so far are clear. -/
  tested : ∀ j, j + 1 < s.scanCnt.toNat → s.scanW.getLsbD j = false
  /-- (iii) the counter is at least 1 and has not passed the answer. -/
  bounds : 1 ≤ s.scanCnt.toNat ∧ ∃ b, LowestSet s.scanW b ∧ s.scanCnt.toNat ≤ b + 1

/-- The invariant of the machine: what every state reached from reset has, and every edge keeps. -/
structure StateInv (s : Machine.State) : Prop where
  /-- The constant is valid and the table is the one derived from it (20_memory.md R32, R33). -/
  rom : s.rom.wf = true
  /-- A scan in flight is on its way to its answer (41_lsbscan.md R94). -/
  scan : s.busy = true → ScanInv s
  /-- While a scan is in flight no response is on the pins (70_reset_and_hazards.md R150). -/
  quiet : s.busy = true → s.rspValid = false
  /-- `rsp_err` is never 3 (30_encoding.md R55). -/
  err : s.rspErr ≠ 3
  /-- Data is 0 with any error (30_encoding.md R54). -/
  errData : s.rspErr ≠ Machine.errNone → s.rspData = 0
  /-- An `ERR_ZERO` on the pins has left its flag set (10_state.md R15). -/
  errZero : s.rspErr = Machine.errZero → s.fltZero = true
  /-- An `ERR_OP` on the pins has left its flag set (10_state.md R15). -/
  errOp : s.rspErr = Machine.errOp → s.fltOp = true

/-- No fault recorded: both sticky flags are 0 (60_exceptions.md R126; 70_reset_and_hazards.md R148). -/
def faultFree (s : Machine.State) : Bool := !s.fltZero && !s.fltOp

/-- A request that keeps the requester's contract: it is no `LSBMUL` and no `LSBSCAN` of the zero Word. The spec names nothing else
(00_scope.md R4; 70_reset_and_hazards.md R145). DESIGN CHOICE, safe (log entry 16): a reserved code breaks no contract. -/
def inContract (p : Machine.Pins) : Bool := !((p.reqOp == 0 || p.reqOp == 1) && p.reqData == 0)

/-- A request whose code is one of the four operations (30_encoding.md R52, R56). -/
def namesOperation (p : Machine.Pins) : Bool := !OpCode.reserved p.reqOp

/-- Every request that the next `n` edges accept is `ok`. A request shown at an edge that does not accept it does not count
(70_reset_and_hazards.md R146: "The requester must not count a request as issued before that edge"). -/
def AcceptsOnly (ok : Machine.Pins → Bool) (n : Nat) (s : Machine.State) : Prop :=
  ∀ k u, k < n → Machine.edges k s = .next u → Machine.accepts u.pins u = true → ok u.pins = true

/-- No reset at any of the next `n` edges. -/
def NoResetFor (n : Nat) (s : Machine.State) : Prop := ∀ p ∈ s.inputs.take n, p.rst = false

end Sys2Proof
end

