-- ==== Sys2Proof/Certificates/Slice0/Obligations.lean ====
section
/-!
DEFINITION. What is claimed of the model, from the numbered rules of the spec. `edges n s` is a run of `n` clock edges, `step s` one
edge with the pins the requester's list shows, `exec i s` what a request does at the edge that accepts it. A statement that rests on
a sentence the spec marks [derived: ...], or on an entry of the assumption log, says so.
-/
open Sys2Proof Sys2Proof.Machine

/-! ### The De Bruijn ROM -/

/-- 20_memory.md section 2 (R32): the index function, the two clauses of `ValidC`, the two other forms of clause (b), and that the block's
own constant satisfies it, whatever the open value is (that last through the model's choice of log entry 1). -/
def Obligations.ValidConstantIsDistinctIndicesAndTopBitsZero : Prop :=
  (∀ (c : Word) (b : Nat), b < 64 → (deBruijnIndex c b).toNat = (2 ^ b * c.toNat) % 2 ^ 64 / 2 ^ 58) ∧
  (∀ c : Word, validConstant c = true ↔
    (∀ a b, a < 64 → b < 64 → deBruijnIndex c a = deBruijnIndex c b → a = b) ∧ deBruijnIndex c 0 = 0) ∧
  (∀ c : Word, deBruijnIndex c 0 = 0 ↔ c >>> 58 = 0) ∧
  (∀ c : Word, c >>> 58 = 0 ↔ c.toNat < 2 ^ 58) ∧
  validConstant State.reset.rom.constant = true

/-- 20_memory.md R33, with its sentence marked [derived: from rule R32] (the table is a permutation, the inverse of `idx_C`): the
table records each position at its index, is the only one that does, is undone by `idx_C`, and has `T[0] = 0`. -/
def Obligations.DerivedTableIsTheUniqueInverse : Prop :=
  ∀ c : Word, validConstant c = true →
    (∀ t : Vector Index 64,
      (∀ b, b < 64 → t[(deBruijnIndex c b).toNat]'(deBruijnIndex c b).isLt = BitVec.ofNat 6 b) ↔ t = deriveTable c) ∧
    (∀ i : Index, deBruijnIndex c ((Memory.build c).read i).toNat = i) ∧
    (∀ i j : Index, (Memory.build c).read i = (Memory.build c).read j → i = j) ∧
    (Memory.build c).read 0 = 0

/-- 20_memory.md R34: the ROM invariant holds of every ROM of the spec, and it is all of the ROM that the correctness of `LSBMUL` on
a nonzero operand uses. -/
def Obligations.RomInvariantIsWhatMulPathNeeds : Prop :=
  (∀ m : Memory, m.wf = true → ∀ b, b < 64 → m.read (deBruijnIndex m.constant b) = BitVec.ofNat 6 b) ∧
  (∀ m : Memory, (∀ b, b < 64 → m.read (deBruijnIndex m.constant b) = BitVec.ofNat 6 b) →
    ∀ (w : Word) (b : Nat), LowestSet w b → (mulPath m w).toNat = b + 1)

/-- 10_state.md R12: no edge, reset and fault included, changes the constant or any table entry. -/
def Obligations.RomNeverChanges : Prop :=
  ∀ (n : Nat) (s t : State), edges n s = .next t →
    t.rom.constant = s.rom.constant ∧ ∀ i : Index, t.rom.read i = s.rom.read i

/-! ### LSBMUL -/

/-- 40_lsbmul.md R71: `neg64`, `iso`, and what isolation leaves of a Word; `MulPath` depends on the operand only through its lowest
set bit. -/
def Obligations.IsolationKeepsExactlyTheLowestSetBit : Prop :=
  (∀ w : Word, (neg64 w).toNat = (2 ^ 64 - w.toNat) % 2 ^ 64 ∧ isolate w = w &&& neg64 w) ∧
  (∀ (w : Word) (b : Nat), LowestSet w b → isolate w = 1#64 <<< b) ∧
  (∀ (m : Memory) (w v : Word) (b : Nat), LowestSet w b → LowestSet v b → mulPath m w = mulPath m v) ∧
  neg64 0 = 0 ∧ isolate 0 = 0 ∧ neg64 0x8000000000000000 = 0x8000000000000000 ∧
  isolate 0x8000000000000000 = 0x8000000000000000

/-- 40_lsbmul.md section 2, the steps of R72, R73 and R74 (the second clauses are marked [derived] there): the product modulo 2^64,
its top 6 bits, and the entry they select. -/
def Obligations.ProductTopBitsSelectTheEntry : Prop :=
  ∀ (m : Memory) (w : Word),
    (deBruijnProduct m w).toNat = (isolate w).toNat * m.constant.toNat % 2 ^ 64 ∧
    (mulIndex m w).toNat = (deBruijnProduct m w).toNat / 2 ^ 58 ∧
    mulPath m w = oneIndexed (m.read (mulIndex m w)) ∧
    (w = 0 → deBruijnProduct m w = 0) ∧
    ∀ b, LowestSet w b → deBruijnProduct m w = m.constant <<< b ∧ mulIndex m w = deBruijnIndex m.constant b

/-- 40_lsbmul.md R75: adding 1 in 7 bits does not wrap, and the result lies in 1..64. -/
def Obligations.OneIndexedResultIsExactAndInRange : Prop :=
  (∀ p : Index, (oneIndexed p).toNat = p.toNat + 1) ∧
  (∀ (m : Memory) (w : Word), 1 ≤ (mulPath m w).toNat ∧ (mulPath m w).toNat ≤ 64)

/-- 40_lsbmul.md R77: the unit alone is total and gives 1 on the zero Word, as on the Word 1; the block answers `ERR_ZERO` with data 0
instead. -/
def Obligations.MulPathOnZeroIsOneButTheBlockFaults : Prop :=
  (∀ m : Memory, m.wf = true →
    isolate 0 = 0 ∧ deBruijnProduct m 0 = 0 ∧ mulIndex m 0 = 0 ∧ m.read 0 = 0 ∧ mulPath m 0 = 1 ∧ mulPath m 0 = mulPath m 1) ∧
  (∀ s : State, ∃ t, exec (.lsbmul 0) s = .next t ∧ t.rspData = 0 ∧ t.rspErr = 1 ∧ t.rspValid = true)

/-- 40_lsbmul.md R70, with the sentence of R76 marked [derived]: `LSBMUL w` of a nonzero Word completes at its acceptance edge with the
1-indexed position of its lowest set bit, whatever valid constant the block was built with, and changes nothing else. -/
def Obligations.LsbmulAnswersLowestSetPosition : Prop :=
  ∀ (s : State) (w : Word) (b : Nat), s.rom.wf = true → LowestSet w b →
    exec (.lsbmul w) s = .next { s with rspData := BitVec.ofNat 64 (b + 1), rspErr := 0, rspValid := true }

/-- 40_lsbmul.md R78: every `LSBMUL` answers at its acceptance edge, whatever the operand; the response depends on the operand, `C` and
`T` only; no register but those of the response, and for a zero operand the flag, is written. -/
def Obligations.LsbmulIsPureAndConstantTime : Prop :=
  (∀ (s : State) (w : Word), ∃ t, exec (.lsbmul w) s = .next t ∧ t.rspValid = true ∧
    t = { s with rspData := t.rspData, rspErr := t.rspErr, rspValid := true, fltZero := s.fltZero || w == 0 }) ∧
  (∀ (s s' t t' : State) (w : Word), s.rom = s'.rom → exec (.lsbmul w) s = .next t → exec (.lsbmul w) s' = .next t' →
    t.response = t'.response)

/-! ### LSBSCAN -/

/-- 41_lsbscan.md section 2 (R91) and 10_state.md section 5 (R16): the edge that accepts `LSBSCAN w`, `w != 0`, writes all three scan
registers and sets `busy` (R91), and makes no test; it writes no response, so `rsp_valid` drops to 0 while `rsp_data` and `rsp_err`
keep their values (R16); the flags and the ROM keep theirs. -/
def Obligations.LsbscanStartsTheScan : Prop :=
  ∀ (s : State) (w : Word), w ≠ 0 →
    exec (.lsbscan w) s =
      .next { s with scanW := w, scanMask := 0x0000000000000001, scanCnt := 1, busy := true, rspValid := false }

/-- 41_lsbscan.md R92: each edge with `busy = 1` and `rst = 0` makes exactly one test, and what the test is when the mask is the bit the
counter points at. -/
def Obligations.ScanIterationMakesOneTest : Prop :=
  (∀ s : State, s.busy = true → s.pins.rst = false →
    step s = .next (
      if s.scanW &&& s.scanMask ≠ 0 then
        { s with rspData := s.scanCnt.setWidth 64, rspErr := 0, rspValid := true, busy := false, inputs := s.inputs.tail }
      else
        { s with scanCnt := s.scanCnt + 1, scanMask := s.scanMask <<< 1, rspValid := false, inputs := s.inputs.tail })) ∧
  (∀ s : State, 1 ≤ s.scanCnt.toNat → s.scanCnt.toNat ≤ 64 → s.scanMask = 1#64 <<< (s.scanCnt.toNat - 1) →
    (s.scanW &&& s.scanMask ≠ 0 ↔ s.scanW.getLsbD (s.scanCnt.toNat - 1) = true))

/-- 41_lsbscan.md section 2, R93 (marked [derived]): from the state its acceptance edge leaves, the scan of a Word whose lowest set bit
is `b` makes `b` tests that fail and one that succeeds, and ends with the counter, mask and response the rule gives. -/
def Obligations.ScanRunsToItsAnswer : Prop :=
  ∀ (s : State) (b : Nat), s.busy = true → s.rspValid = false → s.scanMask = 1 → s.scanCnt = 1 → LowestSet s.scanW b →
    NoResetFor (b + 1) s →
    (∀ k, k ≤ b → edges k s = .next
      { s with scanMask := 1#64 <<< k, scanCnt := BitVec.ofNat 7 (k + 1), inputs := s.inputs.drop k }) ∧
    edges (b + 1) s = .next
      { s with scanMask := 1#64 <<< b, scanCnt := BitVec.ofNat 7 (b + 1), busy := false, rspValid := true,
               rspData := BitVec.ofNat 64 (b + 1), rspErr := 0, inputs := s.inputs.drop (b + 1) }

/-- 41_lsbscan.md section 2, R94 (marked [derived]): the loop of R90 returns the least `k >= 1` with `w[k - 1] = 1`. -/
def Obligations.ScanPathReturnsLowestSetPosition : Prop :=
  ∀ (w : Word) (b : Nat), LowestSet w b → scanPath w = some (BitVec.ofNat 7 (b + 1))

/-- 41_lsbscan.md R96: a scan of the zero Word, started anyhow, never responds and keeps `busy` until a reset ends it; `ScanPath` has no
value at 0; the block has the fault instead. The counter and mask are not mentioned: the rule relies on neither. -/
def Obligations.ScanOfZeroNeverResponds : Prop :=
  (∀ (n : Nat) (s : State), s.busy = true → s.scanW = 0 → NoResetFor n s →
    ∃ t, edges n s = .next t ∧ t.busy = true ∧ t.reqReady = false ∧ t.scanW = 0 ∧
      t.rspData = s.rspData ∧ t.rspErr = s.rspErr ∧ (1 ≤ n → t.rspValid = false)) ∧
  (∀ s : State, s.busy = true → s.scanW = 0 → s.pins.rst = true → ∃ t, step s = .next t ∧ t.busy = false) ∧
  scanPath 0 = none ∧
  (∀ s : State, ∃ t, exec (.lsbscan 0) s = .next t ∧ t.rspData = 0 ∧ t.rspErr = 1 ∧ t.busy = s.busy)

/-- 41_lsbscan.md R95: `LSBSCAN` reads neither `C` nor `T`: with any other ROM the start and every iteration do the same. -/
def Obligations.LsbscanDoesNotReadTheRom : Prop :=
  (∀ (m : Memory) (s t : State) (w : Word), exec (.lsbscan w) s = .next t →
    exec (.lsbscan w) { s with rom := m } = .next { t with rom := m }) ∧
  (∀ (m : Memory) (s t : State), s.busy = true → s.pins.rst = false → step s = .next t →
    step { s with rom := m } = .next { t with rom := m })

/-! ### ROMT, ROMC and the reserved codes -/

/-- 42_rom_ops.md R110: `ROMT i` completes at its acceptance edge with the entry `T[i]` zero-extended, whatever the ignored bits; with a
ROM of the spec that is the one position whose index is `i`, the 64 answers are different, and `ROMT 0` answers 0. -/
def Obligations.RomtAnswersTheTableEntry : Prop :=
  (∀ (s : State) (ignored : BitVec 58) (i : Index),
    exec (.romt ignored i) s =
      .next { s with rspData := (s.rom.read i).setWidth 64, rspErr := 0, rspValid := true }) ∧
  (∀ m : Memory, m.wf = true →
    (∀ (i : Index) (b : Nat), b < 64 → (deBruijnIndex m.constant b = i ↔ m.read i = BitVec.ofNat 6 b)) ∧
    (∀ i j : Index, m.read i = m.read j → i = j) ∧ m.read 0 = 0)

/-- 42_rom_ops.md R111: `ROMC` completes at its acceptance edge with the constant, whatever the data, and under `ValidC` the top 6 bits of
the answer are 0. -/
def Obligations.RomcAnswersTheConstant : Prop :=
  (∀ (s : State) (ignored : Word),
    exec (.romc ignored) s = .next { s with rspData := s.rom.constant, rspErr := 0, rspValid := true }) ∧
  (∀ m : Memory, m.wf = true → m.constant.extractLsb' 58 6 = 0)

/-- 60_exceptions.md R122: a reserved code, 4 to 7, answers `0, ERR_OP` and sets `flt_op`, whatever its data; the code is not recorded. -/
def Obligations.ReservedCodeRaisesErrOp : Prop :=
  (∀ op : OpCode, OpCode.reserved op = true ↔ op = 4 ∨ op = 5 ∨ op = 6 ∨ op = 7) ∧
  (∀ (s : State) (op : OpCode) (d : Word), OpCode.reserved op = true →
    exec (.rsvd op d) s = .next { s with rspData := 0, rspErr := 2, rspValid := true, fltOp := true })

/-- 30_encoding.md R53: how each operation reads `data`, and that the bits it ignores have no effect: two requesters whose pins agree on
`rst`, `req_valid`, `req_op` and the bits used make the same edge. -/
def Obligations.IgnoredOperandBitsHaveNoEffect : Prop :=
  (∀ d : Word, decodeFields 0 d = .lsbmul d ∧ decodeFields 1 d = .lsbscan d ∧
    (∃ x, decodeFields 2 d = .romt x (d.extractLsb' 0 6)) ∧ (∃ x, decodeFields 3 d = .romc x)) ∧
  (∀ (s : State) (p q : Pins) (rest : List Pins), p.rst = q.rst → p.reqValid = q.reqValid → p.reqOp = q.reqOp →
    (p.reqOp = 0 ∨ p.reqOp = 1 → p.reqData = q.reqData) →
    (p.reqOp = 2 → p.reqData.extractLsb' 0 6 = q.reqData.extractLsb' 0 6) →
    step { s with inputs := p :: rest } = step { s with inputs := q :: rest })

/-! ### Faults -/

/-- 60_exceptions.md R121: an accepted request is answered `ERR_ZERO` exactly when it is `LSBMUL` or `LSBSCAN` with the all-zero Word, and
then data is 0 and `flt_zero` is set; the scan is not started. -/
def Obligations.ZeroOperandRaisesErrZero : Prop :=
  ∀ s : State, accepts s.pins s = true →
    ∃ t, step s = .next t ∧
      ((t.rspValid = true ∧ t.rspErr = 1) ↔ ((s.pins.reqOp = 0 ∨ s.pins.reqOp = 1) ∧ s.pins.reqData = 0)) ∧
      ((s.pins.reqOp = 0 ∨ s.pins.reqOp = 1) → s.pins.reqData = 0 →
        t = { s with rspData := 0, rspErr := 1, rspValid := true, fltZero := true, inputs := s.inputs.tail })

/-- 60_exceptions.md R120: `raise` is a response with data 0 and the sticky flag of its error, and nothing else; the block is then ready
for the next request. -/
def Obligations.RaiseAnswersAndSetsOneFlag : Prop :=
  ∀ (s : State) (k : ErrorKind), accepts s.pins s = true → requestError s.pins.request = some k →
    ∃ t, step s = .next t ∧
      t.rspData = 0 ∧ t.rspErr = k.code ∧ t.rspValid = true ∧ t.reqReady = true ∧
      t.fltZero = (s.fltZero || k == .zeroOperand) ∧ t.fltOp = (s.fltOp || k == .reservedOp) ∧
      t.scanW = s.scanW ∧ t.scanMask = s.scanMask ∧ t.scanCnt = s.scanCnt ∧ t.busy = false ∧
      t.rom = s.rom ∧ t.inputs = s.inputs.tail

/-- 60_exceptions.md R124: one request sets at most one flag; a reserved code raises `ERR_OP` whatever its data and leaves `flt_zero`
alone; reset beats both: no request is accepted and no fault raised. -/
def Obligations.OneRequestRaisesAtMostOneFault : Prop :=
  (∀ s t : State, s.pins.rst = false → step s = .next t →
    (t.fltZero = s.fltZero ∨ t.fltOp = s.fltOp)) ∧
  (∀ s : State, accepts s.pins s = true → OpCode.reserved s.pins.reqOp = true →
    ∃ t, step s = .next t ∧ t.rspValid = true ∧ t.rspErr = 2 ∧ t.fltZero = s.fltZero) ∧
  (∀ s : State, s.pins.rst = true → accepts s.pins s = false ∧
    ∃ t, step s = .next t ∧ t.fltZero = false ∧ t.fltOp = false ∧ t.rspValid = false)

/-- 10_state.md R15: at an edge without reset each flag is the OR of what it was and of a response with its error at this edge, so it
stays 1 once set; and no request reads the flags: they change nothing but themselves. -/
def Obligations.FlagsAreStickyAndInert : Prop :=
  (∀ s t : State, s.pins.rst = false → step s = .next t →
    t.fltZero = (s.fltZero || (t.rspValid && t.rspErr == 1)) ∧
    t.fltOp = (s.fltOp || (t.rspValid && t.rspErr == 2))) ∧
  (∀ s t : State, s.pins.rst = true → step s = .next t → t.fltZero = false ∧ t.fltOp = false) ∧
  (∀ (s t : State) (z o : Bool), step s = .next t →
    ∃ t', step { s with fltZero := z, fltOp := o } = .next t' ∧
      { t' with fltZero := t.fltZero, fltOp := t.fltOp } = t)

/-- 70_reset_and_hazards.md R141: only reset clears a flag, reset clears both, and from then each records whether its fault has happened. -/
def Obligations.OnlyResetClearsTheFlags : Prop :=
  ∀ (n : Nat) (s u : State), s.pins.rst = true → edges 1 s = .next u → NoResetFor n u →
    u.fltZero = false ∧ u.fltOp = false ∧
    ∀ t, edges n u = .next t →
      (t.fltZero = true ↔ ∃ k v, k < n ∧ edges (k + 1) u = .next v ∧ v.response.map Response.err = some errZero) ∧
      (t.fltOp = true ↔ ∃ k v, k < n ∧ edges (k + 1) u = .next v ∧ v.response.map Response.err = some errOp)

/-- 00_scope.md section 3 (R4) and 70_reset_and_hazards.md section 3 (R145, R146, R148): where every accepted request keeps the
requester's contract, which bars the zero operand of `LSBMUL` and `LSBSCAN` only, no zero fault is recorded; where no accepted request
has a reserved code either, no fault is. That a reserved code breaks no contract is the model's choice (log entry 16). -/
def Obligations.ContractKeptMeansNoFaultRecorded : Prop :=
  (∀ (n : Nat) (s t : State), AcceptsOnly inContract n s → s.fltZero = false → edges n s = .next t → t.fltZero = false) ∧
  (∀ (n : Nat) (s t : State), AcceptsOnly inContract n s → AcceptsOnly namesOperation n s → faultFree s = true →
    edges n s = .next t → faultFree t = true)

/-! ### Reset, the handshake and the whole edge -/

/-- 10_state.md R20: the reset value of every register; `C` and `T` are not touched by reset; and what the three scan registers hold after
reset, or after any earlier scan, is unobservable: two idle blocks that differ only in it show the same output pins for ever, and are
equal whenever a scan is in flight. -/
def Obligations.ResetValuesAndUnobservableScanRegisters : Prop :=
  (State.reset.scanW = 0 ∧ State.reset.scanMask = 1 ∧ State.reset.scanCnt = 1 ∧ State.reset.busy = false ∧
    State.reset.fltZero = false ∧ State.reset.fltOp = false ∧ State.reset.rspValid = false ∧
    State.reset.rspData = 0 ∧ State.reset.rspErr = 0) ∧
  (∀ s t : State, s.pins.rst = true → step s = .next t →
    t = { State.reset with rom := s.rom, inputs := s.inputs.tail }) ∧
  (∀ (n : Nat) (s : State) (w mask : Word) (cnt : Count), s.busy = false →
    ∃ t t', edges n s = .next t ∧ edges n { s with scanW := w, scanMask := mask, scanCnt := cnt } = .next t' ∧
      t.outputs = t'.outputs ∧ (t.busy = true → t = t'))

/-- 70_reset_and_hazards.md R140: at an edge with `rst = 1` every register takes its reset value, whatever the state and the request
pins show; no request is accepted and the ROM is not affected; `req_ready` is `~busy` all the same. -/
def Obligations.ResetEdgeHasPriorityOverEverything : Prop :=
  (∀ s : State, s.pins.rst = true →
    accepts s.pins s = false ∧
    step s = .next
      { rom := s.rom, scanW := 0, scanMask := 1, scanCnt := 1, busy := false, fltZero := false, fltOp := false,
        rspValid := false, rspData := 0, rspErr := 0, inputs := s.inputs.tail }) ∧
  (∀ s : State, s.reqReady = !s.busy)

/-- 70_reset_and_hazards.md section 1, R142: a reset during a scan leaves nothing of it: the next state is the one a block without any scan
would be in, and with a silent requester no response ever comes. -/
def Obligations.ResetAbandonsTheScanForGood : Prop :=
  (∀ s s' : State, s.rom = s'.rom → s.inputs = s'.inputs → s.pins.rst = true → step s = step s') ∧
  (∀ (n : Nat) (s : State), s.pins.rst = true → (∀ p ∈ s.inputs.tail, p.rst = false ∧ p.reqValid = false) →
    ∃ t, edges (n + 1) s = .next t ∧ t.busy = false ∧ t.response = none)

/-- 10_state.md R14: `busy` is set by the acceptance of an `LSBSCAN` with a nonzero operand and by nothing else, cleared (but for reset) by
the iteration whose test succeeds, at the edge that writes the response; `req_ready` is its inverse. -/
def Obligations.BusyExactlyWhileAScanIsInFlight : Prop :=
  (∀ s t : State, s.busy = false → step s = .next t →
    (t.busy = true ↔ accepts s.pins s = true ∧ s.pins.reqOp = 1 ∧ s.pins.reqData ≠ 0)) ∧
  (∀ s t : State, s.busy = true → s.pins.rst = false → step s = .next t →
    (t.busy = false ↔ s.scanW &&& s.scanMask ≠ 0) ∧ (t.busy = false ↔ t.rspValid = true)) ∧
  (∀ s : State, s.reqReady = !s.busy)

/-- 10_state.md section 5 (R16): each edge without reset either writes a response, with a code other than 3, or drops `rsp_valid` and keeps
`rsp_data` and `rsp_err`. -/
def Obligations.ResponseRegistersChangeOnlyWithAResponse : Prop :=
  ∀ s t : State, s.pins.rst = false → step s = .next t →
    (t.rspValid = false → t.rspData = s.rspData ∧ t.rspErr = s.rspErr) ∧
    (t.rspValid = true → t.rspErr = 0 ∨ (t.rspErr = 1 ∧ t.rspData = 0) ∨ (t.rspErr = 2 ∧ t.rspData = 0))

/-- 70_reset_and_hazards.md section 3 (R146): where no request is accepted the request pins have no effect, and at an edge with no scan, no
request and no reset only `rsp_valid` can change. -/
def Obligations.UnacceptedRequestIsNeverSeen : Prop :=
  (∀ (s : State) (p : Pins) (rest : List Pins) (v : Bool) (op : OpCode) (d : Word), p.rst = true ∨ s.busy = true →
    step { s with inputs := p :: rest } =
      step { s with inputs := { rst := p.rst, reqValid := v, reqOp := op, reqData := d } :: rest }) ∧
  (∀ s : State, s.pins.rst = false → s.busy = false → s.pins.reqValid = false →
    step s = .next { s with rspValid := false, inputs := s.inputs.tail })

/-- 30_encoding.md section 1 (R50) and 70_reset_and_hazards.md section 3 (R146): a step runs the decoded request. Where the edge accepts a
request whose word decodes to a well-formed `i`, the step is `exec i` with the pins of this edge taken; and after
`withFetchWord` the next step runs the request that `decodeTableWord` reads (the placement is the model's: log entry 3). -/
def Obligations.AcceptedWordRunsTheDecodedRequest : Prop :=
  (∀ (s : State) (i : Instr), accepts s.pins s = true → decode (reqWord s.pins.reqOp s.pins.reqData) = i → i.wf = true →
    step s = exec i { s with inputs := s.inputs.tail }) ∧
  (∀ (s : State) (nbits w : Nat) (i : Instr), decodeTableWord nbits w = some i →
    step (s.withFetchWord nbits w) = exec i { s with busy := false })

/-- 70_reset_and_hazards.md section 4, R151 (marked [derived]): the whole block as one edge function, every branch written out. -/
def Obligations.StepIsTheEdgeFunctionOfTheSpec : Prop :=
  ∀ s : State,
    let p := s.pins
    let r : State := { s with inputs := s.inputs.tail }
    step s = .next (
      if p.rst = true then
        { r with scanW := 0, scanMask := 1, scanCnt := 1, busy := false, fltZero := false, fltOp := false,
                 rspValid := false, rspData := 0, rspErr := 0 }
      else if s.busy = true then
        if s.scanW &&& s.scanMask ≠ 0 then
          { r with rspData := s.scanCnt.setWidth 64, rspErr := 0, rspValid := true, busy := false }
        else { r with scanCnt := s.scanCnt + 1, scanMask := s.scanMask <<< 1, rspValid := false }
      else if p.reqValid = true then
        if p.reqOp.getLsbD 2 = true then { r with rspData := 0, rspErr := 2, rspValid := true, fltOp := true }
        else if (p.reqOp = 0 ∨ p.reqOp = 1) ∧ p.reqData = 0 then
          { r with rspData := 0, rspErr := 1, rspValid := true, fltZero := true }
        else if p.reqOp = 0 then
          { r with rspData := (mulPath s.rom p.reqData).setWidth 64, rspErr := 0, rspValid := true }
        else if p.reqOp = 1 then
          { r with scanW := p.reqData, scanMask := 1, scanCnt := 1, busy := true, rspValid := false }
        else if p.reqOp = 2 then
          { r with rspData := (s.rom.read (p.reqData.extractLsb' 0 6)).setWidth 64, rspErr := 0, rspValid := true }
        else { r with rspData := s.rom.constant, rspErr := 0, rspValid := true }
      else { r with rspValid := false })

/-- 60_exceptions.md sections 2 and 4 (R123, R125, R126): nothing stops the block: every run of edges, from any state, goes on. -/
def Obligations.NoRunEverStops : Prop :=
  ∀ (n : Nat) (s : State), ∃ t, edges n s = .next t

/-! ### Frames -/

/-- 60_exceptions.md section 1, 40_lsbmul.md section 1, 42_rom_ops.md section 1: what a request that answers at its acceptance edge
(`LSBMUL`, `ROMT`, `ROMC`, a reserved code, and `LSBSCAN` of zero) leaves unchanged: the scan registers, `busy`, every ROM location,
the requester's list, and each flag but that of the error it raises. -/
def Obligations.FrameOfRequestsThatAnswerAtOnce : Prop :=
  ∀ (i : Instr) (s t : State), (∀ w, i = .lsbscan w → w = 0) → exec i s = .next t →
    t.scanW = s.scanW ∧ t.scanMask = s.scanMask ∧ t.scanCnt = s.scanCnt ∧ t.busy = s.busy ∧
    t.rom.constant = s.rom.constant ∧ (∀ a : Index, t.rom.read a = s.rom.read a) ∧ t.inputs = s.inputs ∧
    (i ≠ .lsbmul 0 → i ≠ .lsbscan 0 → t.fltZero = s.fltZero) ∧
    ((∀ op d, i ≠ .rsvd op d) → t.fltOp = s.fltOp)

/-- 41_lsbscan.md sections 1 and 2: what the start of a scan, and each of its iterations, leave unchanged. -/
def Obligations.FrameOfTheScan : Prop :=
  (∀ (w : Word) (s t : State), w ≠ 0 → exec (.lsbscan w) s = .next t →
    t.rspData = s.rspData ∧ t.rspErr = s.rspErr ∧ t.fltZero = s.fltZero ∧ t.fltOp = s.fltOp ∧
    t.rom.constant = s.rom.constant ∧ (∀ a : Index, t.rom.read a = s.rom.read a) ∧ t.inputs = s.inputs) ∧
  (∀ s t : State, s.busy = true → s.pins.rst = false → step s = .next t →
    t.scanW = s.scanW ∧ t.fltZero = s.fltZero ∧ t.fltOp = s.fltOp ∧
    t.rom.constant = s.rom.constant ∧ (∀ a : Index, t.rom.read a = s.rom.read a) ∧
    (t.busy = true → t.rspData = s.rspData ∧ t.rspErr = s.rspErr) ∧
    (t.busy = false → t.scanMask = s.scanMask ∧ t.scanCnt = s.scanCnt))

/-! ### Invariants -/

/-- The invariant of Safety.lean holds after reset (10_state.md section 8; its ROM clause through log entry 1). -/
def Obligations.ResetStateHasTheInvariant : Prop := StateInv State.reset

/-- Every edge keeps the invariant of Safety.lean: the ROM's form, the scan invariants of 41_lsbscan.md R94 (marked [derived]), silence while
a scan runs, no error code 3, data 0 with any error, and an error on the pins recorded in its flag. -/
def Obligations.EveryEdgeKeepsTheInvariant : Prop :=
  ∀ s t : State, StateInv s → step s = .next t → StateInv t

/-! ### The two levels, and the two algorithms -/

/-- 10_state.md section 7, R19 (marked [derived]), with the latencies of 70_reset_and_hazards.md section 4: a request accepted by an idle block is
answered at the edge the latency table gives, no earlier, with the response and flags of the transaction level (log entry 12). -/
def Obligations.EdgeLevelRefinesTransactionLevel : Prop :=
  ∀ (s : State) (i : Instr), s.rom.wf = true → accepts s.pins s = true → s.pins.request = i →
    NoResetFor (responseEdge i + 1) s →
    (∀ k, 1 ≤ k → k ≤ responseEdge i → ∃ t, edges k s = .next t ∧ t.busy = true ∧ t.response = none) ∧
    ∃ t, edges (responseEdge i + 1) s = .next t ∧
      (t.flags, t.response) = transact s.rom s.flags i ∧ t.response.isSome = true ∧ t.busy = false ∧
      t.rom = s.rom ∧ t.inputs = s.inputs.drop (responseEdge i + 1)

/-- 20_memory.md section 4 (R40), for the simplest host of 95_test_vectors.md section 3 (log entry 13): a script of well-formed requests is
answered request by request, in order, each response the one its request and the ROM alone determine (`respondTo`, log entry 12), and the flags
end as the OR of the faults. -/
def Obligations.ScriptIsAnsweredInOrder : Prop :=
  ∀ (script : List Instr) (s : State), s.rom.wf = true → s.busy = false → (∀ i ∈ script, i.wf = true) →
    ∃ h, HostedBlock.run (script.map fun i => responseEdge i + 1).sum { block := s, script := script, taken := [] } = .next h ∧
      h.script = [] ∧ h.block.busy = false ∧
      h.taken.map some = script.map (respondTo s.rom) ∧
      h.block.flags = script.foldl flagsAfter s.flags ∧ h.block.rom = s.rom

/-- 42_rom_ops.md section 2, R112 (marked [derived]), at the block's port, with the simplest host (log entry 13): after `LSBBOTH w` the
host has two equal responses; for `w = 0` both are `0, ERR_ZERO`, and for any other Word both are the 1-indexed position of its lowest
set bit, in 1..64. -/
def Obligations.BothAlgorithmsAgreeAtThePort : Prop :=
  ∀ (s : State) (w : Word), s.rom.wf = true → s.busy = false →
    ∃ n h r, HostedBlock.run n { block := s, script := lsbBoth w, taken := [] } = .next h ∧
      h.taken = [r, r] ∧ lsbBothAgrees h.taken = true ∧
      (w = 0 → r = { data := 0, err := 1 }) ∧
      (∀ b, LowestSet w b → r = { data := BitVec.ofNat 64 (b + 1), err := 0 } ∧ 1 ≤ r.data.toNat ∧ r.data.toNat ≤ 64)

/-- 40_lsbmul.md section 3 and 20_memory.md section 2 (sentences marked [derived]): no answer of `LSBMUL` or `LSBSCAN` at the transaction
level (log entry 12) depends on which valid constant the block was built with; and in the machine, an accepted `LSBMUL` does the same
with any of them. -/
def Obligations.AnswersDoNotDependOnTheConstant : Prop :=
  ∀ (m m' : Memory) (w : Word), m.wf = true → m'.wf = true →
    respondTo m (.lsbmul w) = respondTo m' (.lsbmul w) ∧ respondTo m (.lsbscan w) = respondTo m' (.lsbscan w) ∧
    ∀ s t : State, exec (.lsbmul w) { s with rom := m } = .next t → exec (.lsbmul w) { s with rom := m' } = .next { t with rom := m' }

/-- 70_reset_and_hazards.md section 2 (R144), with the simplest host of 95_test_vectors.md section 3 (host and verdict are modelled by
log entry 13): the host's `ROMCHECK`, 65 requests, passes on every block whose ROM is of the spec's form. -/
def Obligations.RomCheckPassesOnAValidRom : Prop :=
  ∀ s : State, s.rom.wf = true → s.busy = false →
    ∃ h, HostedBlock.run 65 { block := s, script := romDump, taken := [] } = .next h ∧ romCheckPasses h.taken = true

/-- 60_exceptions.md section 7 (R131; the list of blocks is the model's: log entry 14): steps of different blocks do not affect each
other, in either order. -/
def Obligations.BlocksSideBySideAreIndependent : Prop :=
  ∀ (bs cs ds : List State) (j k : Nat), j ≠ k → stepBlock bs j = .next cs → stepBlock cs k = .next ds →
    cs[k]? = bs[k]? ∧ ∃ es, stepBlock bs k = .next es ∧ stepBlock es j = .next ds

/-! ### Encoding -/

/-- 30_encoding.md section 1: decoding the word of a well-formed request gives the request, every operand and every ignored bit included. -/
def Obligations.DecodeOfEncodeIsTheRequest : Prop :=
  ∀ i : Instr, i.wf = true → decode (encode i) = i

/-- 30_encoding.md sections 1 and 2: every 67-bit word is the word of exactly the request it decodes to, a well-formed one. -/
def Obligations.EncodeOfDecodeIsTheWord : Prop :=
  ∀ r : ReqWord, (decode r).wf = true ∧ encode (decode r) = r

/-- 30_encoding.md R52: the operation code selects the operation, all eight values accounted for. -/
def Obligations.OpcodeMapAccountsForAllEightCodes : Prop :=
  ∀ r : ReqWord,
    (r.toNat / 2 ^ 64 = 0 → decode r = .lsbmul (BitVec.ofNat 64 r.toNat)) ∧
    (r.toNat / 2 ^ 64 = 1 → decode r = .lsbscan (BitVec.ofNat 64 r.toNat)) ∧
    (r.toNat / 2 ^ 64 = 2 → ∃ x, decode r = .romt x (BitVec.ofNat 6 r.toNat)) ∧
    (r.toNat / 2 ^ 64 = 3 → ∃ x, decode r = .romc x) ∧
    (4 ≤ r.toNat / 2 ^ 64 → decode r = .rsvd (BitVec.ofNat 3 (r.toNat / 2 ^ 64)) (BitVec.ofNat 64 r.toNat))

/-- 30_encoding.md section 5 and 95_test_vectors.md sections 2.4 and 3: words written out in the spec stand for the requests it says. -/
def Obligations.WordsOfTheSpecDecode : Prop :=
  decode 0x00000000000000018 = .lsbmul 0x18 ∧ decode 0x10000000000000014 = .lsbscan 0x14 ∧
  decode 0x2FFFFFFFFFFFFFFC7 = .romt 0x3FFFFFFFFFFFFFF 7 ∧ decode 0x30000000000000000 = .romc 0 ∧
  decode 0x50000000000000018 = .rsvd 5 0x18

/-- 30_encoding.md R51: the response is the pair of `rsp_err` and `rsp_data` in a cycle where `rsp_valid = 1`, and its word holds the error
code in bits 65:64 and the data in bits 63:0. -/
def Obligations.ResponseWordHoldsErrorAndData : Prop :=
  (∀ s : State, s.rspValid = true → ∃ r, s.response = some r ∧
    r.word.extractLsb' 64 2 = s.rspErr ∧ r.word.extractLsb' 0 64 = s.rspData) ∧
  (∀ s : State, s.rspValid = false → s.response = none)
end

