-- ==== Sys2Proof/Laws/Decode.lean ====
section
/-!
SUPPORT. The fields of a request word and the reserved codes, so that proofs about decoding need not take a word apart bit by bit.
-/
namespace Sys2Proof

/-- A concatenation, read as a number. -/
theorem toNat_append_eq {m n : Nat} (a : BitVec m) (b : BitVec n) : (a ++ b).toNat = a.toNat * 2 ^ n + b.toNat := by
  rw [BitVec.toNat_append, ← Nat.shiftLeft_add_eq_or_of_lt b.isLt, Nat.shiftLeft_eq]

/-- A request word, read as a number (30_encoding.md R50). -/
theorem reqWord_toNat (op : OpCode) (d : Word) : (reqWord op d).toNat = op.toNat * 2 ^ 64 + d.toNat :=
  toNat_append_eq op d

/-- The operation code of a request word, read as a number. -/
theorem reqOpField_toNat (r : ReqWord) : (reqOpField r).toNat = r.toNat / 2 ^ 64 := by
  have := r.isLt
  simp only [reqOpField, BitVec.extractLsb'_toNat, Nat.shiftRight_eq_div_pow]
  omega

/-- The data of a request word, read as a number. -/
theorem reqDataField_toNat (r : ReqWord) : (reqDataField r).toNat = r.toNat % 2 ^ 64 := by
  simp [reqDataField, BitVec.extractLsb'_toNat]

@[simp] theorem reqOpField_reqWord (op : OpCode) (d : Word) : reqOpField (reqWord op d) = op := by
  apply BitVec.eq_of_toNat_eq
  rw [reqOpField_toNat, reqWord_toNat]
  have := d.isLt
  omega

@[simp] theorem reqDataField_reqWord (op : OpCode) (d : Word) : reqDataField (reqWord op d) = d := by
  apply BitVec.eq_of_toNat_eq
  rw [reqDataField_toNat, reqWord_toNat]
  have := d.isLt
  omega

/-- A request word is its two fields, and nothing else (30_encoding.md R50). -/
theorem reqWord_fields (r : ReqWord) : reqWord (reqOpField r) (reqDataField r) = r := by
  apply BitVec.eq_of_toNat_eq
  rw [reqWord_toNat, reqOpField_toNat, reqDataField_toNat]
  omega

/-- The reserved codes are 4, 5, 6, 7 (30_encoding.md R52). -/
theorem reserved_iff (op : OpCode) : OpCode.reserved op = true ↔ 4 ≤ op.toNat := by
  revert op; decide

/-- A code that is not reserved is one of the four operations (30_encoding.md R52). -/
theorem not_reserved_cases (op : OpCode) (h : OpCode.reserved op = false) : op = 0 ∨ op = 1 ∨ op = 2 ∨ op = 3 := by
  revert op; decide

end Sys2Proof
end

