-- ==== Sys2Proof/Laws/State.lean ====
section
/-!
SUPPORT. What each named update of the state does to each field, once, so that no later proof unfolds a record update.
-/
namespace Sys2Proof.Machine

@[simp] theorem State.respond_rom (s : State) (d : Word) (e : ErrCode) : (s.respond d e).rom = s.rom := rfl
@[simp] theorem State.respond_scanW (s : State) (d : Word) (e : ErrCode) : (s.respond d e).scanW = s.scanW := rfl
@[simp] theorem State.respond_scanMask (s : State) (d : Word) (e : ErrCode) : (s.respond d e).scanMask = s.scanMask := rfl
@[simp] theorem State.respond_scanCnt (s : State) (d : Word) (e : ErrCode) : (s.respond d e).scanCnt = s.scanCnt := rfl
@[simp] theorem State.respond_busy (s : State) (d : Word) (e : ErrCode) : (s.respond d e).busy = s.busy := rfl
@[simp] theorem State.respond_fltZero (s : State) (d : Word) (e : ErrCode) : (s.respond d e).fltZero = s.fltZero := rfl
@[simp] theorem State.respond_fltOp (s : State) (d : Word) (e : ErrCode) : (s.respond d e).fltOp = s.fltOp := rfl
@[simp] theorem State.respond_rspValid (s : State) (d : Word) (e : ErrCode) : (s.respond d e).rspValid = true := rfl
@[simp] theorem State.respond_rspData (s : State) (d : Word) (e : ErrCode) : (s.respond d e).rspData = d := rfl
@[simp] theorem State.respond_rspErr (s : State) (d : Word) (e : ErrCode) : (s.respond d e).rspErr = e := rfl
@[simp] theorem State.respond_inputs (s : State) (d : Word) (e : ErrCode) : (s.respond d e).inputs = s.inputs := rfl

@[simp] theorem State.noResponse_rom (s : State) : (s.noResponse).rom = s.rom := rfl
@[simp] theorem State.noResponse_scanW (s : State) : (s.noResponse).scanW = s.scanW := rfl
@[simp] theorem State.noResponse_scanMask (s : State) : (s.noResponse).scanMask = s.scanMask := rfl
@[simp] theorem State.noResponse_scanCnt (s : State) : (s.noResponse).scanCnt = s.scanCnt := rfl
@[simp] theorem State.noResponse_busy (s : State) : (s.noResponse).busy = s.busy := rfl
@[simp] theorem State.noResponse_fltZero (s : State) : (s.noResponse).fltZero = s.fltZero := rfl
@[simp] theorem State.noResponse_fltOp (s : State) : (s.noResponse).fltOp = s.fltOp := rfl
@[simp] theorem State.noResponse_rspValid (s : State) : (s.noResponse).rspValid = false := rfl
@[simp] theorem State.noResponse_rspData (s : State) : (s.noResponse).rspData = s.rspData := rfl
@[simp] theorem State.noResponse_rspErr (s : State) : (s.noResponse).rspErr = s.rspErr := rfl
@[simp] theorem State.noResponse_inputs (s : State) : (s.noResponse).inputs = s.inputs := rfl

@[simp] theorem State.startScan_rom (s : State) (w : Word) : (s.startScan w).rom = s.rom := rfl
@[simp] theorem State.startScan_scanW (s : State) (w : Word) : (s.startScan w).scanW = w := rfl
@[simp] theorem State.startScan_scanMask (s : State) (w : Word) : (s.startScan w).scanMask = 1 := rfl
@[simp] theorem State.startScan_scanCnt (s : State) (w : Word) : (s.startScan w).scanCnt = 1 := rfl
@[simp] theorem State.startScan_busy (s : State) (w : Word) : (s.startScan w).busy = true := rfl
@[simp] theorem State.startScan_fltZero (s : State) (w : Word) : (s.startScan w).fltZero = s.fltZero := rfl
@[simp] theorem State.startScan_fltOp (s : State) (w : Word) : (s.startScan w).fltOp = s.fltOp := rfl
@[simp] theorem State.startScan_rspValid (s : State) (w : Word) : (s.startScan w).rspValid = false := rfl
@[simp] theorem State.startScan_rspData (s : State) (w : Word) : (s.startScan w).rspData = s.rspData := rfl
@[simp] theorem State.startScan_rspErr (s : State) (w : Word) : (s.startScan w).rspErr = s.rspErr := rfl
@[simp] theorem State.startScan_inputs (s : State) (w : Word) : (s.startScan w).inputs = s.inputs := rfl

@[simp] theorem State.endScan_rom (s : State) : (s.endScan).rom = s.rom := rfl
@[simp] theorem State.endScan_scanW (s : State) : (s.endScan).scanW = s.scanW := rfl
@[simp] theorem State.endScan_scanMask (s : State) : (s.endScan).scanMask = s.scanMask := rfl
@[simp] theorem State.endScan_scanCnt (s : State) : (s.endScan).scanCnt = s.scanCnt := rfl
@[simp] theorem State.endScan_busy (s : State) : (s.endScan).busy = false := rfl
@[simp] theorem State.endScan_fltZero (s : State) : (s.endScan).fltZero = s.fltZero := rfl
@[simp] theorem State.endScan_fltOp (s : State) : (s.endScan).fltOp = s.fltOp := rfl
@[simp] theorem State.endScan_rspValid (s : State) : (s.endScan).rspValid = true := rfl
@[simp] theorem State.endScan_rspData (s : State) : (s.endScan).rspData = countToData s.scanCnt := rfl
@[simp] theorem State.endScan_rspErr (s : State) : (s.endScan).rspErr = 0 := rfl
@[simp] theorem State.endScan_inputs (s : State) : (s.endScan).inputs = s.inputs := rfl

@[simp] theorem State.advanceScan_rom (s : State) : (s.advanceScan).rom = s.rom := rfl
@[simp] theorem State.advanceScan_scanW (s : State) : (s.advanceScan).scanW = s.scanW := rfl
@[simp] theorem State.advanceScan_scanMask (s : State) : (s.advanceScan).scanMask = s.scanMask <<< 1 := rfl
@[simp] theorem State.advanceScan_scanCnt (s : State) : (s.advanceScan).scanCnt = s.scanCnt + 1 := rfl
@[simp] theorem State.advanceScan_busy (s : State) : (s.advanceScan).busy = s.busy := rfl
@[simp] theorem State.advanceScan_fltZero (s : State) : (s.advanceScan).fltZero = s.fltZero := rfl
@[simp] theorem State.advanceScan_fltOp (s : State) : (s.advanceScan).fltOp = s.fltOp := rfl
@[simp] theorem State.advanceScan_rspValid (s : State) : (s.advanceScan).rspValid = false := rfl
@[simp] theorem State.advanceScan_rspData (s : State) : (s.advanceScan).rspData = s.rspData := rfl
@[simp] theorem State.advanceScan_rspErr (s : State) : (s.advanceScan).rspErr = s.rspErr := rfl
@[simp] theorem State.advanceScan_inputs (s : State) : (s.advanceScan).inputs = s.inputs := rfl

@[simp] theorem State.nextPins_rom (s : State) : (s.nextPins).rom = s.rom := rfl
@[simp] theorem State.nextPins_scanW (s : State) : (s.nextPins).scanW = s.scanW := rfl
@[simp] theorem State.nextPins_scanMask (s : State) : (s.nextPins).scanMask = s.scanMask := rfl
@[simp] theorem State.nextPins_scanCnt (s : State) : (s.nextPins).scanCnt = s.scanCnt := rfl
@[simp] theorem State.nextPins_busy (s : State) : (s.nextPins).busy = s.busy := rfl
@[simp] theorem State.nextPins_fltZero (s : State) : (s.nextPins).fltZero = s.fltZero := rfl
@[simp] theorem State.nextPins_fltOp (s : State) : (s.nextPins).fltOp = s.fltOp := rfl
@[simp] theorem State.nextPins_rspValid (s : State) : (s.nextPins).rspValid = s.rspValid := rfl
@[simp] theorem State.nextPins_rspData (s : State) : (s.nextPins).rspData = s.rspData := rfl
@[simp] theorem State.nextPins_rspErr (s : State) : (s.nextPins).rspErr = s.rspErr := rfl
@[simp] theorem State.nextPins_inputs (s : State) : (s.nextPins).inputs = s.inputs.tail := rfl

@[simp] theorem State.resetRegisters_rom (s : State) : (s.resetRegisters).rom = s.rom := rfl
@[simp] theorem State.resetRegisters_scanW (s : State) : (s.resetRegisters).scanW = 0 := rfl
@[simp] theorem State.resetRegisters_scanMask (s : State) : (s.resetRegisters).scanMask = 1 := rfl
@[simp] theorem State.resetRegisters_scanCnt (s : State) : (s.resetRegisters).scanCnt = 1 := rfl
@[simp] theorem State.resetRegisters_busy (s : State) : (s.resetRegisters).busy = false := rfl
@[simp] theorem State.resetRegisters_fltZero (s : State) : (s.resetRegisters).fltZero = false := rfl
@[simp] theorem State.resetRegisters_fltOp (s : State) : (s.resetRegisters).fltOp = false := rfl
@[simp] theorem State.resetRegisters_rspValid (s : State) : (s.resetRegisters).rspValid = false := rfl
@[simp] theorem State.resetRegisters_rspData (s : State) : (s.resetRegisters).rspData = 0 := rfl
@[simp] theorem State.resetRegisters_rspErr (s : State) : (s.resetRegisters).rspErr = 0 := rfl
@[simp] theorem State.resetRegisters_inputs (s : State) : (s.resetRegisters).inputs = s.inputs := rfl

@[simp] theorem State.raise_rom (s : State) (k : ErrorKind) : (s.raise k).rom = s.rom := by
  cases k <;> rfl
@[simp] theorem State.raise_scanW (s : State) (k : ErrorKind) : (s.raise k).scanW = s.scanW := by
  cases k <;> rfl
@[simp] theorem State.raise_scanMask (s : State) (k : ErrorKind) : (s.raise k).scanMask = s.scanMask := by
  cases k <;> rfl
@[simp] theorem State.raise_scanCnt (s : State) (k : ErrorKind) : (s.raise k).scanCnt = s.scanCnt := by
  cases k <;> rfl
@[simp] theorem State.raise_busy (s : State) (k : ErrorKind) : (s.raise k).busy = s.busy := by
  cases k <;> rfl
@[simp] theorem State.raise_fltZero (s : State) (k : ErrorKind) :
    (s.raise k).fltZero = (s.fltZero || k == .zeroOperand) := by
  cases k <;> simp [State.raise, State.setFlag]
@[simp] theorem State.raise_fltOp (s : State) (k : ErrorKind) :
    (s.raise k).fltOp = (s.fltOp || k == .reservedOp) := by
  cases k <;> simp [State.raise, State.setFlag]
@[simp] theorem State.raise_rspValid (s : State) (k : ErrorKind) : (s.raise k).rspValid = true := by
  cases k <;> rfl
@[simp] theorem State.raise_rspData (s : State) (k : ErrorKind) : (s.raise k).rspData = 0 := by
  cases k <;> rfl
@[simp] theorem State.raise_rspErr (s : State) (k : ErrorKind) : (s.raise k).rspErr = k.code := by
  cases k <;> rfl
@[simp] theorem State.raise_inputs (s : State) (k : ErrorKind) : (s.raise k).inputs = s.inputs := by
  cases k <;> rfl

@[simp] theorem State.setFlag_zeroOperand (s : State) : s.setFlag .zeroOperand = { s with fltZero := true } := rfl
@[simp] theorem State.setFlag_reservedOp (s : State) : s.setFlag .reservedOp = { s with fltOp := true } := rfl

end Sys2Proof.Machine
end

