-- ==== Sys2Proof/Laws/Ops.lean ====
section
/-!
SUPPORT. Once for each shared operation, everything it can do: the operand check, a scan iteration, an edge and a step. Proofs cite
these and do not unfold the operations.
-/
namespace Sys2Proof.Machine

@[simp] theorem operandIsZero_iff (w : Word) : operandIsZero w = true ↔ w = 0 := by simp [operandIsZero]

theorem operandIsZero_false {w : Word} (h : w ≠ 0) : operandIsZero w = false := by
  simpa [operandIsZero] using h

/-- The test of an iteration (41_lsbscan.md R92). -/
theorem scanHit_iff (s : State) : s.scanHit = true ↔ s.scanW &&& s.scanMask ≠ 0 := by simp [State.scanHit]

theorem scanStep_hit {s : State} (h : s.scanHit = true) : s.scanStep = s.endScan := by simp [State.scanStep, h]

theorem scanStep_miss {s : State} (h : s.scanHit = false) : s.scanStep = s.advanceScan := by simp [State.scanStep, h]

/-- Everything an accepted request can do: raise the one error it has, start a scan, or answer at once (30_encoding.md R57). -/
theorem exec_cases {i : Instr} {s t : State} (h : exec i s = .next t) :
    (∃ k, t = s.raise k) ∨
    (∃ w, i = .lsbscan w ∧ w ≠ 0 ∧ t = s.startScan w) ∨
    (∃ d, t = s.respond d errNone) := by
  cases i with
  | lsbmul w =>
    simp only [exec, execLsbmul] at h
    split at h
    · exact .inl ⟨_, by simpa using h.symm⟩
    · exact .inr (.inr ⟨_, by simpa using h.symm⟩)
  | lsbscan w =>
    simp only [exec, execLsbscan] at h
    split at h
    · exact .inl ⟨_, by simpa using h.symm⟩
    · rename_i hw
      exact .inr (.inl ⟨w, rfl, by simpa using hw, by simpa using h.symm⟩)
  | romt ignored i => exact .inr (.inr ⟨_, by simpa [exec, execRomt] using h.symm⟩)
  | romc ignored => exact .inr (.inr ⟨_, by simpa [exec, execRomc] using h.symm⟩)
  | rsvd op ignored => exact .inl ⟨_, by simpa [exec, execRsvd] using h.symm⟩

/-- Everything an edge can do: reset, one scan iteration, one accepted request, or nothing (70_reset_and_hazards.md R151). -/
theorem edge_cases {p : Pins} {s t : State} (h : edge p s = .next t) :
    (p.rst = true ∧ t = s.resetRegisters) ∨
    (p.rst = false ∧ s.busy = true ∧ t = s.scanStep) ∨
    (p.rst = false ∧ s.busy = false ∧ p.reqValid = true ∧ exec p.request s = .next t) ∨
    (p.rst = false ∧ s.busy = false ∧ p.reqValid = false ∧ t = s.noResponse) := by
  unfold edge at h
  split at h
  · exact .inl ⟨‹_›, by simpa using h.symm⟩
  · split at h
    · exact .inr (.inl ⟨by simpa using ‹¬p.rst = true›, ‹_›, by simpa using h.symm⟩)
    · split at h
      · exact .inr (.inr (.inl ⟨by simpa using ‹¬p.rst = true›, by simpa using ‹¬s.busy = true›, ‹_›, h⟩))
      · exact .inr (.inr (.inr ⟨by simpa using ‹¬p.rst = true›, by simpa using ‹¬s.busy = true›,
          by simpa using ‹¬p.reqValid = true›, by simpa using h.symm⟩))

theorem edge_reset {p : Pins} (s : State) (h : p.rst = true) : edge p s = .next s.resetRegisters := by simp [edge, h]

theorem edge_busy {p : Pins} {s : State} (hr : p.rst = false) (hb : s.busy = true) :
    edge p s = .next s.scanStep := by simp [edge, hr, hb]

theorem edge_accept {p : Pins} {s : State} (hr : p.rst = false) (hb : s.busy = false) (hv : p.reqValid = true) :
    edge p s = exec p.request s := by simp [edge, hr, hb, hv]

theorem edge_idle {p : Pins} {s : State} (hr : p.rst = false) (hb : s.busy = false) (hv : p.reqValid = false) :
    edge p s = .next s.noResponse := by simp [edge, hr, hb, hv]

theorem step_eq (s : State) : step s = edge s.pins s.nextPins := rfl

@[simp] theorem pins_cons (s : State) (p : Pins) (rest : List Pins) (h : s.inputs = p :: rest) : s.pins = p := by
  simp [State.pins, h]

@[simp] theorem pins_nil (s : State) (h : s.inputs = []) : s.pins = Pins.idle := by simp [State.pins, h]

/-- What a request shown on the pins is decoded to is the request (30_encoding.md R50). -/
theorem request_ofWord (r : ReqWord) : (Pins.ofWord r).request = decode r := by
  simp [Pins.ofWord, Pins.request, reqWord_fields]

end Sys2Proof.Machine
end

