-- ==== Sys2Proof/Laws/PerInstr.lean ====
section
/-!
SUPPORT. Statements about every instruction as syntax, one lemma per constructor.
-/
namespace Sys2Proof.Laws

/-- A well-formed request carries its operation code in bits 66:64 of its word, and the code is reserved exactly for the reserved
requests (30_encoding.md R50, R52, R56). -/
def OpField.Statement (i : Instr) : Prop :=
  i.wf = true →
    reqOpField (encode i) = i.opCode ∧
      (OpCode.reserved i.opCode = true ↔ ∃ op d, i = .rsvd op d)

theorem OpField.lsbmul (w : Word) : OpField.Statement (.lsbmul w) := fun _ =>
  ⟨by simp [encode], by simp [Instr.opCode]; decide⟩

theorem OpField.lsbscan (w : Word) : OpField.Statement (.lsbscan w) := fun _ =>
  ⟨by simp [encode], by simp [Instr.opCode]; decide⟩

theorem OpField.romt (ignored : BitVec 58) (i : Index) : OpField.Statement (.romt ignored i) := fun _ =>
  ⟨by simp [encode], by simp [Instr.opCode]; decide⟩

theorem OpField.romc (ignored : Word) : OpField.Statement (.romc ignored) := fun _ =>
  ⟨by simp [encode], by simp [Instr.opCode]; decide⟩

theorem OpField.rsvd (op : OpCode) (ignored : Word) : OpField.Statement (.rsvd op ignored) := fun h =>
  ⟨by simp [encode], by simpa [Instr.opCode, Instr.wf] using h⟩

end Sys2Proof.Laws
end

