-- ==== Sys2Proof/Laws/Rom.lean ====
section
/-!
SUPPORT. The form of the ROM: what a valid constant gives, that a built ROM has the form, and that the ROM of the reset state has it. No
operation of the machine writes the ROM: the field lemmas of Laws/State.lean say so for each update, so each keeps the form.
-/
namespace Sys2Proof.Machine

/-- Different bit positions have different indices (20_memory.md R32 (a)). -/
theorem validConstant_distinct {c : Word} (h : validConstant c = true) {a b : Nat} (ha : a < 64) (hb : b < 64)
    (e : deBruijnIndex c a = deBruijnIndex c b) : a = b := by
  have hd : (bitPositions.map (deBruijnIndex c)).Nodup := by
    rw [validConstant, Bool.and_eq_true] at h
    exact of_decide_eq_true h.1
  exact List.inj_on_of_nodup_map hd (List.mem_range.mpr ha) (List.mem_range.mpr hb) e

/-- Index 0 belongs to bit 0 (20_memory.md R32 (b)). -/
theorem validConstant_zero {c : Word} (h : validConstant c = true) : deBruijnIndex c 0 = 0 := by
  rw [validConstant, Bool.and_eq_true] at h
  exact of_decide_eq_true h.2

/-- The default constant is valid (20_memory.md R35: evaluated, as in 95_test_vectors.md section 2.1). -/
theorem defaultConstant_valid : validConstant Config.defaultConstant = true := by decide +kernel

/-- The constant a block is built with is valid, whatever the open value is (20_memory.md R32; log entry 1). -/
theorem builtConstant_valid : validConstant builtConstant = true := by
  unfold builtConstant
  split
  · assumption
  · exact defaultConstant_valid

/-- A ROM built from a valid constant has the form. -/
theorem build_wf {c : Word} (h : validConstant c = true) : (Memory.build c).wf = true := by
  simp [Memory.wf, Memory.build, h]

/-- The ROM of the reset state has the form. -/
theorem reset_rom_wf : State.reset.rom.wf = true := build_wf builtConstant_valid

/-- A ROM of the form has a valid constant. -/
theorem Memory.valid_of_wf {m : Memory} (h : m.wf = true) : validConstant m.constant = true := by
  simp only [Memory.wf, Bool.and_eq_true] at h
  exact h.1

/-- A ROM of the form has the table derived from its constant. -/
theorem Memory.table_of_wf {m : Memory} (h : m.wf = true) : m.table = deriveTable m.constant := by
  simp only [Memory.wf, Bool.and_eq_true, decide_eq_true_eq] at h
  exact h.2

end Sys2Proof.Machine
end

