-- ==== Sys2Proof/Laws/Run.lean ====
section
/-!
SUPPORT. Runs of several edges, taken apart at the first edge or at the last, and the lowest set bit of a Word.
-/
namespace Sys2Proof

open Machine

@[simp] theorem edges_zero (s : State) : edges 0 s = .next s := rfl

/-- A run of `n + 1` edges is one edge and then `n`. -/
theorem edges_succ {s t : State} (n : Nat) (h : step s = .next t) : edges (n + 1) s = edges n t := by
  simp [edges, h]

/-- A run of `n + 1` edges is `n` edges and then one. -/
theorem edges_succ_last {s t : State} (n : Nat) (h : edges n s = .next t) : edges (n + 1) s = step t := by
  induction n generalizing s with
  | zero =>
    obtain rfl : s = t := by simpa using h
    simp only [edges]
    cases step s <;> rfl
  | succ n ih =>
    rw [edges] at h ⊢
    cases hs : step s <;> rw [hs] at h
    · exact ih h
    · cases h
    · cases h

/-- No edge accepts anything in a run of none. -/
theorem acceptsOnly_zero (ok : Pins → Bool) (s : State) : AcceptsOnly ok 0 s := fun _ _ h => absurd h (Nat.not_lt_zero _)

/-- The requests accepted in `n + 1` edges are the one of the first edge, if any, and those of the `n` after it. -/
theorem acceptsOnly_succ {ok : Pins → Bool} {n : Nat} {s t : State} (h : step s = .next t) :
    AcceptsOnly ok (n + 1) s ↔ (accepts s.pins s = true → ok s.pins = true) ∧ AcceptsOnly ok n t := by
  constructor
  · intro hs
    exact ⟨hs 0 s (Nat.succ_pos n) rfl, fun k u hk hu => hs (k + 1) u (Nat.succ_lt_succ hk) (by rw [edges_succ k h, hu])⟩
  · rintro ⟨h0, ht⟩ (_ | k) u hk hu
    · cases hu
      exact h0
    · exact ht k u (Nat.lt_of_succ_lt_succ hk) (by rw [← edges_succ k h, hu])

theorem hosted_run_succ {h h' : HostedBlock} (n : Nat) (e : h.step = .next h') :
    HostedBlock.run (n + 1) h = HostedBlock.run n h' := by
  simp [HostedBlock.run, e]

/-- Every Word with a set bit has a lowest one (00_scope.md R6). -/
theorem exists_lowestSet {w : Word} (h : w ≠ 0) : ∃ b, LowestSet w b := by
  have hex : ∃ b, w.getLsbD b = true := by
    by_contra hn
    refine h (BitVec.eq_of_getLsbD_eq fun i _ => ?_)
    simpa using fun hi => hn ⟨i, hi⟩
  refine ⟨Nat.find hex, ?_, Nat.find_spec hex, fun j hj => ?_⟩
  · by_contra hge
    have := BitVec.getLsbD_of_ge w (Nat.find hex) (by omega)
    simp [Nat.find_spec hex] at this
  · simpa using Nat.find_min hex hj

/-- A Word has at most one lowest set bit. -/
theorem LowestSet.unique {w : Word} {a b : Nat} (ha : LowestSet w a) (hb : LowestSet w b) : a = b := by
  rcases Nat.lt_trichotomy a b with h | h | h
  · simpa [ha.2.1] using hb.2.2 a h
  · exact h
  · simpa [hb.2.1] using ha.2.2 b h

/-- A Word with a lowest set bit is not zero. -/
theorem LowestSet.ne_zero {w : Word} {b : Nat} (h : LowestSet w b) : w ≠ 0 := by
  rintro rfl
  simpa using h.2.1

/-- Two positions below the lowest set bit or at it: the bit is set exactly at it. -/
theorem LowestSet.bit_iff {w : Word} {b j : Nat} (h : LowestSet w b) (hj : j ≤ b) : w.getLsbD j = true ↔ j = b := by
  constructor
  · intro hs
    by_contra hne
    simpa [hs] using h.2.2 j (by omega)
  · rintro rfl; exact h.2.1

end Sys2Proof
end

