-- ==== Sys2Proof/Tests/Slice0.lean ====
section
/-!
SUPPORT. Tests whose expected results stand in the spec (95_test_vectors.md, and the worked examples of the operation files), and for
every statement with hypotheses a witness that meets them together, at the boundaries of their ranges.
-/
namespace Sys2Proof.Tests

open Sys2Proof.Machine

/-- A block built with `C0`, after reset (95_test_vectors.md section 3). -/
def blockC0 : State := State.resetWith (Memory.build Config.defaultConstant) []

/-- The block, with given pins at the next edge. -/
def showing (p : Pins) : State := { blockC0 with inputs := [p] }

/-- The block in the middle of a scan of `w`, about to test bit `k`. -/
def scanning (w : Word) (k : Nat) : State :=
  { blockC0 with scanW := w, scanMask := 1#64 <<< k, scanCnt := BitVec.ofNat 7 (k + 1), busy := true }

/-- The response that an outcome leaves on the pins. -/
def responseOf : Host.Outcome State Fault Refusal → Option Response
  | .next t => t.response
  | .fault _ => none
  | .refused _ => none

/-- The flags that an outcome leaves. -/
def flagsOf : Host.Outcome State Fault Refusal → Option (Bool × Bool)
  | .next t => some (t.fltZero, t.fltOp)
  | .fault _ => none
  | .refused _ => none

/-- Whether an outcome is a next state. -/
def isNext : Host.Outcome State Fault Refusal → Bool
  | .next _ => true
  | .fault _ => false
  | .refused _ => false

/-! ### Well-formedness and decoding -/

/-- 30_encoding.md R58: `RSVD k, d` with k = 3 is no reserved request, with k = 4 it is. -/
theorem test_rsvd_needs_reserved_code : (Instr.rsvd 3 0).wf = false ∧ (Instr.rsvd 4 0).wf = true := by decide

/-- 30_encoding.md R58: `LSBMUL 0x18` is `{000, 0x18}`. -/
theorem test_decode_lsbmul :
    decode 0b0000000000000000000000000000000000000000000000000000000000000011000#67 = .lsbmul 0x18 := by decide

/-- 30_encoding.md R58: `LSBSCAN 0x18` is `{001, 0x18}`. -/
theorem test_decode_lsbscan :
    decode 0b0010000000000000000000000000000000000000000000000000000000000011000#67 = .lsbscan 0x18 := by decide

/-- 30_encoding.md R58: `ROMT 7` is `{010, 7}`. -/
theorem test_decode_romt :
    decode 0b0100000000000000000000000000000000000000000000000000000000000000111#67 = .romt 0 7 := by decide

/-- 30_encoding.md R58: `ROMC` is `{011, 0}`. -/
theorem test_decode_romc :
    decode 0b0110000000000000000000000000000000000000000000000000000000000000000#67 = .romc 0 := by decide

/-- 30_encoding.md R58: `RSVD 5, 0x18` is `{101, 0x18}`. -/
theorem test_decode_rsvd :
    decode 0b1010000000000000000000000000000000000000000000000000000000000011000#67 = .rsvd 5 0x18 := by decide

/-- 30_encoding.md R50: a number with a bit above bit 66 is rejected by name. -/
theorem test_decode_rejects_68_bits :
    decodeNat (2 ^ 67) = .error .widerThanRequest ∧ decodeTableWord 72 (2 ^ 67) = none ∧
      decodeTableWord 72 0x10000000000000014 = some (.lsbscan 0x14) := by decide

/-- The word that `withFetchWord` places is accepted and answered by the first step after reset (95_test_vectors.md S3). -/
theorem test_placed_word_runs_after_reset :
    isNext (step (State.reset.withFetchWord 67 0x00000000000000018)) = true ∧
      isNext (step (State.reset.withFetchWord 72 0x70000000000000001)) = true := ⟨rfl, rfl⟩

/-! ### The ROM -/

/-- 20_memory.md R35: the table that `C0` derives. -/
theorem test_table_of_default_constant :
    (deriveTable Config.defaultConstant).toList.map BitVec.toNat =
      [0, 1, 48, 2, 57, 49, 28, 3, 61, 58, 50, 42, 38, 29, 17, 4] ++
      [62, 55, 59, 36, 53, 51, 43, 22, 45, 39, 33, 30, 24, 18, 12, 5] ++
      [63, 47, 56, 27, 60, 41, 37, 16, 54, 35, 52, 21, 44, 32, 23, 11] ++
      [46, 26, 40, 15, 34, 20, 31, 10, 25, 14, 19, 9, 13, 8, 7, 6] := by decide +kernel

/-- 95_test_vectors.md section 2.6: the verdicts of `ValidC`. -/
theorem test_valid_constant_verdicts :
    [0x03F79D71B4CB0A89, 0x022FDD63CC95386D, 0x0218A392CD3D5DBF].map validConstant = [true, true, true] ∧
      [0x07EDD5E59A4E28C2, 0x03F79D71B4CB0A88, 0, 1, 0xFFFFFFFFFFFFFFFF, 0x8000000000000000].map validConstant =
        [false, false, false, false, false, false] := by decide +kernel

/-! ### One step of each instruction -/

/-- 95_test_vectors.md section 2.2: the intermediates of `LSBMUL 0x18`, and its answer 4. -/
theorem test_lsbmul_0x18 :
    isolate 0x18 = 0x8 ∧ deBruijnProduct blockC0.rom 0x18 = 0x1FBCEB8DA6585448 ∧ mulIndex blockC0.rom 0x18 = 7 ∧
      responseOf (exec (.lsbmul 0x18) blockC0) = some { data := 4, err := 0 } := by decide +kernel

/-- 95_test_vectors.md S2 and section 2.5 row 2: bit 63 alone gives 64, and zero gives `0, ERR_ZERO` and `flt_zero`. -/
theorem test_lsbmul_ends_of_range :
    responseOf (exec (.lsbmul 0x8000000000000000) blockC0) = some { data := 64, err := 0 } ∧
      responseOf (exec (.lsbmul 0) blockC0) = some { data := 0, err := 1 } ∧
      flagsOf (exec (.lsbmul 0) blockC0) = some (true, false) := by decide +kernel

/-- 95_test_vectors.md section 2.3: `LSBSCAN 0x14` answers 3 at its third test, and not at its second. -/
theorem test_lsbscan_0x14 :
    responseOf (step (scanning 0x14 1)) = none ∧ responseOf (step (scanning 0x14 2)) = some { data := 3, err := 0 } := by
  decide +kernel

/-- 95_test_vectors.md sections 2.3 and 2.5 row 4: the last test answers 64; `LSBSCAN 0` answers `0, ERR_ZERO` at once. -/
theorem test_lsbscan_ends_of_range :
    responseOf (step (scanning 0x8000000000000000 63)) = some { data := 64, err := 0 } ∧
      responseOf (exec (.lsbscan 0) blockC0) = some { data := 0, err := 1 } ∧
      scanPath 0x8000000000000000 = some 64 ∧ scanPath 0 = none := by decide +kernel

/-- 95_test_vectors.md section 2.4: `ROMT 0xFFFFFFFFFFFFFFC7` is `ROMT 7` and answers 3, `ROMT 0x20` answers 63. -/
theorem test_romt_entries :
    responseOf (exec (decode 0x2FFFFFFFFFFFFFFC7) blockC0) = some { data := 3, err := 0 } ∧
      responseOf (exec (.romt 0 0x20) blockC0) = some { data := 63, err := 0 } := by decide +kernel

/-- 95_test_vectors.md section 2.4: `ROMC` with any data answers the constant. -/
theorem test_romc_any_data :
    responseOf (exec (.romc 0xFFFFFFFFFFFFFFFF) blockC0) = some { data := 0x03F79D71B4CB0A89, err := 0 } := by decide +kernel

/-- 95_test_vectors.md section 2.5 row 5: `RSVD 4, 0` answers `0, ERR_OP` and leaves `flt_zero` alone. -/
theorem test_rsvd_raises_err_op_only :
    responseOf (step (showing (Pins.ofInstr (.rsvd 4 0)))) = some { data := 0, err := 2 } ∧
      flagsOf (step (showing (Pins.ofInstr (.rsvd 4 0)))) = some (false, true) := by decide +kernel

/-- 95_test_vectors.md section 2.8: a zero-operand request on the pins at a reset edge raises nothing. -/
theorem test_reset_beats_request :
    responseOf (step (showing { rst := true, reqValid := true, reqOp := 0, reqData := 0 })) = none ∧
      flagsOf (step (showing { rst := true, reqValid := true, reqOp := 0, reqData := 0 })) = some (false, false) := by
  decide +kernel

/-- 95_test_vectors.md section 2.6: with the invalid constant the host's `ROMCHECK` fails on the answers. -/
theorem test_rom_check_fails_on_bad_rom :
    romCheckPasses (romDump.filterMap (respondTo (Memory.build 0x03F79D71B4CB0A88))) = false ∧
      romCheckPasses (romDump.filterMap (respondTo blockC0.rom)) = true := by decide +kernel

/-! ### Witnesses: the hypotheses of each statement, met together -/

theorem blockC0_rom_wf : blockC0.rom.wf = true := build_wf defaultConstant_valid

theorem lowestSet_bit0 : LowestSet 0xFFFFFFFFFFFFFFFF 0 := ⟨by decide, by decide, by omega⟩

theorem lowestSet_bit1 : LowestSet 0xAAAAAAAAAAAAAAAA 1 ∧ LowestSet 0x6 1 := by unfold LowestSet; decide

theorem lowestSet_bit63 : LowestSet 0x8000000000000000 63 := by unfold LowestSet; decide

theorem witness_ValidConstantIsDistinctIndicesAndTopBitsZero :
    validConstant Config.defaultConstant = true ∧ deBruijnIndex Config.defaultConstant 0 = 0 ∧
      deBruijnIndex Config.defaultConstant 63 = 32 ∧ Config.defaultConstant >>> 58 = 0 := by decide +kernel

theorem witness_DerivedTableIsTheUniqueInverse : validConstant 0x022FDD63CC95386D = true := by decide +kernel

theorem witness_RomInvariantIsWhatMulPathNeeds :
    blockC0.rom.wf = true ∧ LowestSet 0xFFFFFFFFFFFFFFFF 0 ∧ LowestSet 0x8000000000000000 63 ∧
      ∀ b, b < 64 → blockC0.rom.read (deBruijnIndex blockC0.rom.constant b) = BitVec.ofNat 6 b :=
  ⟨blockC0_rom_wf, lowestSet_bit0, lowestSet_bit63, by decide +kernel⟩

theorem witness_RomNeverChanges : ∃ t, edges 2 (showing Pins.reset) = .next t := ⟨_, rfl⟩

theorem witness_IsolationKeepsExactlyTheLowestSetBit :
    LowestSet 0xAAAAAAAAAAAAAAAA 1 ∧ LowestSet 0x6 1 ∧ LowestSet 0x8000000000000000 63 :=
  ⟨lowestSet_bit1.1, lowestSet_bit1.2, lowestSet_bit63⟩

theorem witness_ProductTopBitsSelectTheEntry : LowestSet 0xFFFFFFFFFFFFFFFF 0 ∧ LowestSet 0x8000000000000000 63 :=
  ⟨lowestSet_bit0, lowestSet_bit63⟩

theorem witness_MulPathOnZeroIsOneButTheBlockFaults : blockC0.rom.wf = true := blockC0_rom_wf

theorem witness_LsbmulAnswersLowestSetPosition :
    blockC0.rom.wf = true ∧ LowestSet 0xFFFFFFFFFFFFFFFF 0 ∧ LowestSet 0x8000000000000000 63 :=
  ⟨blockC0_rom_wf, lowestSet_bit0, lowestSet_bit63⟩

theorem witness_LsbmulIsPureAndConstantTime :
    blockC0.rom = (scanning 1 0).rom ∧ (∃ t, exec (.lsbmul 6) blockC0 = .next t) ∧
      ∃ t, exec (.lsbmul 6) (scanning 1 0) = .next t := ⟨rfl, ⟨_, rfl⟩, ⟨_, rfl⟩⟩

theorem witness_LsbscanStartsTheScan : (0x8000000000000000 : Word) ≠ 0 := by decide

theorem witness_ScanIterationMakesOneTest :
    ((scanning 0x14 2).busy = true ∧ (scanning 0x14 2).pins.rst = false) ∧
      (1 ≤ (scanning 1 0).scanCnt.toNat ∧ (scanning 1 0).scanMask = 1#64 <<< ((scanning 1 0).scanCnt.toNat - 1)) ∧
      ((scanning 1 63).scanCnt.toNat = 64 ∧ (scanning 1 63).scanMask = 1#64 <<< ((scanning 1 63).scanCnt.toNat - 1)) := by
  decide

theorem witness_ScanRunsToItsAnswer :
    let s := scanning 0x8000000000000000 0
    s.busy = true ∧ s.rspValid = false ∧ s.scanMask = 1 ∧ s.scanCnt = 1 ∧ LowestSet s.scanW 63 ∧ NoResetFor 64 s :=
  ⟨rfl, rfl, rfl, rfl, lowestSet_bit63, by unfold NoResetFor; decide⟩

theorem witness_ScanPathReturnsLowestSetPosition : LowestSet 0xFFFFFFFFFFFFFFFF 0 ∧ LowestSet 0x8000000000000000 63 :=
  ⟨lowestSet_bit0, lowestSet_bit63⟩

theorem witness_ScanOfZeroNeverResponds :
    ((scanning 0 0).busy = true ∧ (scanning 0 0).scanW = 0 ∧ NoResetFor 65 (scanning 0 0)) ∧
      State.pins { scanning 0 0 with inputs := [Pins.reset] } = Pins.reset :=
  ⟨⟨rfl, rfl, by unfold NoResetFor; decide⟩, rfl⟩

theorem witness_LsbscanDoesNotReadTheRom :
    (∃ t, exec (.lsbscan 6) blockC0 = .next t) ∧ (scanning 6 0).busy = true ∧ (scanning 6 0).pins.rst = false ∧
      ∃ t, step (scanning 6 0) = .next t := ⟨⟨_, rfl⟩, rfl, rfl, ⟨_, rfl⟩⟩

theorem witness_RomtAnswersTheTableEntry :
    blockC0.rom.wf = true ∧ deBruijnIndex blockC0.rom.constant 63 = 32 ∧ blockC0.rom.read 32 = 63 :=
  ⟨blockC0_rom_wf, by decide +kernel, by decide +kernel⟩

theorem witness_RomcAnswersTheConstant : blockC0.rom.wf = true := blockC0_rom_wf

theorem witness_ReservedCodeRaisesErrOp : OpCode.reserved 4 = true ∧ OpCode.reserved 7 = true ∧ OpCode.reserved 3 = false := by
  decide

theorem witness_IgnoredOperandBitsHaveNoEffect :
    let p : Pins := { rst := false, reqValid := true, reqOp := 2, reqData := 7 }
    let q : Pins := { rst := false, reqValid := true, reqOp := 2, reqData := 0xFFFFFFFFFFFFFFC7 }
    p.rst = q.rst ∧ p.reqValid = q.reqValid ∧ p.reqOp = q.reqOp ∧ (p.reqOp = 0 ∨ p.reqOp = 1 → p.reqData = q.reqData) ∧
      p.reqData.extractLsb' 0 6 = q.reqData.extractLsb' 0 6 ∧ p ≠ q := by decide

theorem witness_ZeroOperandRaisesErrZero :
    let z := showing { rst := false, reqValid := true, reqOp := 1, reqData := 0 }
    let n := showing { rst := false, reqValid := true, reqOp := 1, reqData := 1 }
    (accepts z.pins z = true ∧ z.pins.reqOp = 1 ∧ z.pins.reqData = 0) ∧ accepts n.pins n = true := by decide

theorem witness_RaiseAnswersAndSetsOneFlag :
    let z := showing (Pins.ofInstr (.lsbmul 0))
    let r := showing (Pins.ofInstr (.rsvd 7 0))
    (accepts z.pins z = true ∧ requestError z.pins.request = some .zeroOperand) ∧
      accepts r.pins r = true ∧ requestError r.pins.request = some .reservedOp := by decide

theorem witness_OneRequestRaisesAtMostOneFault :
    let r := showing (Pins.ofInstr (.rsvd 4 0))
    (r.pins.rst = false ∧ ∃ t, step r = .next t) ∧ (accepts r.pins r = true ∧ OpCode.reserved r.pins.reqOp = true) ∧
      (showing Pins.reset).pins.rst = true := ⟨⟨rfl, ⟨_, rfl⟩⟩, by decide, rfl⟩

theorem witness_FlagsAreStickyAndInert :
    (blockC0.pins.rst = false ∧ ∃ t, step blockC0 = .next t) ∧
      ((showing Pins.reset).pins.rst = true ∧ ∃ t, step (showing Pins.reset) = .next t) := ⟨⟨rfl, ⟨_, rfl⟩⟩, rfl, ⟨_, rfl⟩⟩

theorem witness_OnlyResetClearsTheFlags :
    let s := { blockC0 with inputs := [Pins.reset, Pins.ofInstr (.rsvd 5 0), Pins.idle] }
    s.pins.rst = true ∧ ∃ u, edges 1 s = .next u ∧ NoResetFor 2 u ∧ ∃ t, edges 2 u = .next t :=
  ⟨rfl, _, rfl, by unfold NoResetFor; decide +kernel, _, rfl⟩

/-- A requester that keeps its contract: a zero operand shown while a scan runs is not accepted, so it breaks nothing. -/
def contractKeeper : State :=
  { blockC0 with inputs := [Pins.ofInstr (.lsbscan 1), Pins.ofInstr (.lsbmul 0), Pins.ofInstr (.romt 0 0)] }

theorem witness_ContractKeptMeansNoFaultRecorded :
    AcceptsOnly inContract 3 contractKeeper ∧ AcceptsOnly namesOperation 3 contractKeeper ∧
      faultFree contractKeeper = true ∧ ∃ t, edges 3 contractKeeper = .next t := by
  refine ⟨?_, ?_, rfl, _, rfl⟩ <;>
    exact (acceptsOnly_succ rfl).mpr ⟨fun _ => rfl, (acceptsOnly_succ rfl).mpr ⟨(absurd · (by decide)),
      (acceptsOnly_succ rfl).mpr ⟨fun _ => rfl, acceptsOnly_zero _ _⟩⟩⟩

/-- A reserved code breaks no contract and records no zero fault, but a fault all the same. -/
theorem witness_ContractKeptMeansNoFaultRecorded_reserved :
    let s := showing (Pins.ofInstr (.rsvd 4 0))
    AcceptsOnly inContract 1 s ∧ s.fltZero = false ∧ flagsOf (edges 1 s) = some (false, true) :=
  ⟨(acceptsOnly_succ rfl).mpr ⟨fun _ => rfl, acceptsOnly_zero _ _⟩, rfl, rfl⟩

theorem witness_ResetValuesAndUnobservableScanRegisters :
    ((showing Pins.reset).pins.rst = true ∧ ∃ t, step (showing Pins.reset) = .next t) ∧ blockC0.busy = false :=
  ⟨⟨rfl, _, rfl⟩, rfl⟩

theorem witness_ResetEdgeHasPriorityOverEverything :
    State.pins { scanning 6 0 with inputs := [Pins.reset] } = Pins.reset ∧ Pins.reset.rst = true := ⟨rfl, rfl⟩

theorem witness_ResetAbandonsTheScanForGood :
    let s := { scanning 0x100 3 with inputs := [Pins.reset, Pins.idle] }
    let s' := { blockC0 with inputs := [Pins.reset, Pins.idle] }
    s.rom = s'.rom ∧ s.inputs = s'.inputs ∧ s.pins.rst = true ∧
      ∀ p ∈ s.inputs.tail, p.rst = false ∧ p.reqValid = false := ⟨rfl, rfl, rfl, by decide +kernel⟩

theorem witness_BusyExactlyWhileAScanIsInFlight :
    (blockC0.busy = false ∧ ∃ t, step blockC0 = .next t) ∧ (scanning 6 0).busy = true ∧ (scanning 6 0).pins.rst = false ∧
      ∃ t, step (scanning 6 0) = .next t := ⟨⟨rfl, _, rfl⟩, rfl, rfl, _, rfl⟩

theorem witness_ResponseRegistersChangeOnlyWithAResponse :
    blockC0.pins.rst = false ∧ (∃ t, step blockC0 = .next t ∧ t.rspValid = false) ∧
      ∃ t, step (showing (Pins.ofInstr (.romc 0))) = .next t ∧ t.rspValid = true := ⟨rfl, ⟨_, rfl, rfl⟩, _, rfl, rfl⟩

theorem witness_UnacceptedRequestIsNeverSeen :
    (Pins.reset.rst = true ∧ (scanning 6 0).busy = true) ∧
      blockC0.pins.rst = false ∧ blockC0.busy = false ∧ blockC0.pins.reqValid = false := by decide

theorem witness_AcceptedWordRunsTheDecodedRequest :
    let s := showing (Pins.ofInstr (.romt 1 63))
    (accepts s.pins s = true ∧ decode (reqWord s.pins.reqOp s.pins.reqData) = .romt 1 63 ∧ (Instr.romt 1 63).wf = true) ∧
      decodeTableWord 72 (2 ^ 67 - 1) = some (.rsvd 7 0xFFFFFFFFFFFFFFFF) := by decide

theorem witness_FrameOfRequestsThatAnswerAtOnce :
    (∀ w, Instr.lsbscan 0 = .lsbscan w → w = 0) ∧ (∃ t, exec (.lsbscan 0) blockC0 = .next t) ∧
      (∀ w, Instr.romc 0 = .lsbscan w → w = 0) ∧ ∃ t, exec (.romc 0) blockC0 = .next t :=
  ⟨fun _ h => (Instr.lsbscan.inj h).symm, ⟨_, rfl⟩, (fun _ h => nomatch h), ⟨_, rfl⟩⟩

theorem witness_FrameOfTheScan :
    (∃ t, exec (.lsbscan 1) blockC0 = .next t) ∧ (scanning 6 1).busy = true ∧ (scanning 6 1).pins.rst = false ∧
      ∃ t, step (scanning 6 1) = .next t := ⟨⟨_, rfl⟩, rfl, rfl, _, rfl⟩

/-- Two states with the invariant: an idle one, and one in the last test of the longest scan. -/
theorem witness_EveryEdgeKeepsTheInvariant :
    (StateInv blockC0 ∧ ∃ t, step blockC0 = .next t) ∧
      StateInv (scanning 0x8000000000000000 63) ∧ ∃ t, step (scanning 0x8000000000000000 63) = .next t := by
  refine ⟨⟨⟨blockC0_rom_wf, (fun h => nomatch h), by decide, by decide, by decide, by decide, by decide⟩, _, rfl⟩,
    ⟨blockC0_rom_wf, fun _ => ⟨by decide, fun j hj => ?_, by decide, 63, lowestSet_bit63, by decide⟩,
      by decide, by decide, by decide, by decide, by decide⟩, _, rfl⟩
  have : j + 1 < 64 := hj
  exact lowestSet_bit63.2.2 j (by omega)

theorem witness_EdgeLevelRefinesTransactionLevel :
    let s := showing (Pins.ofInstr (.lsbscan 0x8000000000000000))
    s.rom.wf = true ∧ accepts s.pins s = true ∧ s.pins.request = .lsbscan 0x8000000000000000 ∧
      responseEdge (.lsbscan 0x8000000000000000) = 64 ∧ NoResetFor 65 s :=
  ⟨blockC0_rom_wf, by decide, by decide, by decide +kernel, by unfold NoResetFor; decide +kernel⟩

theorem witness_ScriptIsAnsweredInOrder :
    blockC0.rom.wf = true ∧ blockC0.busy = false ∧ ∀ i ∈ [Instr.lsbmul 0, .rsvd 5 0, .lsbscan 0x14], i.wf = true :=
  ⟨blockC0_rom_wf, rfl, by decide⟩

theorem witness_BothAlgorithmsAgreeAtThePort :
    blockC0.rom.wf = true ∧ blockC0.busy = false ∧ LowestSet 0x8000000000000000 63 ∧ LowestSet 0xFFFFFFFFFFFFFFFF 0 :=
  ⟨blockC0_rom_wf, rfl, lowestSet_bit63, lowestSet_bit0⟩

theorem witness_AnswersDoNotDependOnTheConstant :
    blockC0.rom.wf = true ∧ (Memory.build 0x0218A392CD3D5DBF).wf = true ∧
      ∃ t, exec (.lsbmul 0x8000000000000000) { blockC0 with rom := blockC0.rom } = .next t :=
  ⟨blockC0_rom_wf, build_wf (by decide +kernel), _, rfl⟩

theorem witness_RomCheckPassesOnAValidRom : blockC0.rom.wf = true ∧ blockC0.busy = false := ⟨blockC0_rom_wf, rfl⟩

theorem witness_BlocksSideBySideAreIndependent :
    (0 : Nat) ≠ 1 ∧ ∃ cs, stepBlock [blockC0, scanning 6 0] 0 = .next cs ∧ ∃ ds, stepBlock cs 1 = .next ds :=
  ⟨by decide, _, rfl, _, rfl⟩

theorem witness_DecodeOfEncodeIsTheRequest :
    (Instr.rsvd 4 0).wf = true ∧ (Instr.rsvd 7 0xFFFFFFFFFFFFFFFF).wf = true ∧ (Instr.romt 1 63).wf = true := by decide

theorem witness_OpcodeMapAccountsForAllEightCodes :
    (0x0FFFFFFFFFFFFFFFF : ReqWord).toNat / 2 ^ 64 = 0 ∧ (0x10000000000000000 : ReqWord).toNat / 2 ^ 64 = 1 ∧
      (0x2FFFFFFFFFFFFFFFF : ReqWord).toNat / 2 ^ 64 = 2 ∧ (0x3FFFFFFFFFFFFFFFF : ReqWord).toNat / 2 ^ 64 = 3 ∧
      (0x40000000000000000 : ReqWord).toNat / 2 ^ 64 = 4 := by decide

theorem witness_ResponseWordHoldsErrorAndData :
    (∃ t, step (showing (Pins.ofInstr (.rsvd 7 0))) = .next t ∧ t.rspValid = true ∧ t.rspErr = 2) ∧ blockC0.rspValid = false :=
  ⟨⟨_, rfl, rfl, rfl⟩, rfl⟩

end Sys2Proof.Tests
end

section
/-! ### The state family (10_state.md): what an edge keeps, records and reads -/
namespace Sys2Proof.Machine

/-! #### The scan iteration, field by field -/

@[simp] theorem State.nextPins_scanHit (s : State) : s.nextPins.scanHit = s.scanHit := rfl

@[simp] theorem State.scanStep_rom (s : State) : s.scanStep.rom = s.rom := by
  unfold State.scanStep; split <;> simp

@[simp] theorem State.scanStep_fltZero (s : State) : s.scanStep.fltZero = s.fltZero := by
  unfold State.scanStep; split <;> simp

@[simp] theorem State.scanStep_fltOp (s : State) : s.scanStep.fltOp = s.fltOp := by
  unfold State.scanStep; split <;> simp

@[simp] theorem State.scanStep_rspValid (s : State) : s.scanStep.rspValid = s.scanHit := by
  cases h : s.scanHit <;> simp [State.scanStep, h]

@[simp] theorem State.scanStep_busy (s : State) : s.scanStep.busy = (s.busy && !s.scanHit) := by
  cases h : s.scanHit <;> simp [State.scanStep, h]

/-! #### What a request does, as a function of the request and the ROM alone, and what follows for runs -/

/-- The requests whose acceptance sets `busy` (10_state.md R14). -/
def startsScan (i : Instr) : Prop := ∃ w, i = .lsbscan w ∧ w ≠ 0

/-- The same operation with the same values in every state with this ROM: no request reads another register (R13, R15). -/
theorem exec_uniform (i : Instr) (m : Memory) :
    (∃ w, i = .lsbscan w ∧ w ≠ 0 ∧ ∀ s, exec i s = .next (s.startScan w)) ∨
    (¬ startsScan i ∧ ∃ k, ∀ s, exec i s = .next (s.raise k)) ∨
    (¬ startsScan i ∧ ∃ d, ∀ s : State, s.rom = m → exec i s = .next (s.respond d errNone)) := by
  cases i with
  | lsbmul w =>
    by_cases hw : w = 0
    · exact .inr (.inl ⟨nofun, .zeroOperand, fun s => by simp [exec, execLsbmul, hw]⟩)
    · exact .inr (.inr ⟨nofun, countToData (mulPath m w), fun s hs => by
        simp [exec, execLsbmul, operandIsZero_false hw, hs]⟩)
  | lsbscan w =>
    by_cases hw : w = 0
    · exact .inr (.inl ⟨by simp [startsScan, hw], .zeroOperand, fun s => by simp [exec, execLsbscan, hw]⟩)
    · exact .inl ⟨w, rfl, hw, fun s => by simp [exec, execLsbscan, operandIsZero_false hw]⟩
  | romt ignored a => exact .inr (.inr ⟨nofun, entryToData (m.read a), fun s hs => by rw [← hs]; rfl⟩)
  | romc ignored => exact .inr (.inr ⟨nofun, m.constant, fun s hs => by rw [← hs]; rfl⟩)
  | rsvd op ignored => exact .inr (.inl ⟨nofun, .reservedOp, fun _ => rfl⟩)

theorem exec_total (i : Instr) (s : State) : ∃ t, exec i s = .next t := by
  obtain ⟨w, -, -, h⟩ | ⟨-, k, h⟩ | ⟨-, d, h⟩ := exec_uniform i s.rom
  · exact ⟨_, h s⟩
  · exact ⟨_, h s⟩
  · exact ⟨_, h s rfl⟩

theorem step_total (s : State) : ∃ t, step s = .next t := by
  rw [step_eq, edge]
  split_ifs
  exacts [⟨_, rfl⟩, ⟨_, rfl⟩, exec_total _ _, ⟨_, rfl⟩]

theorem step_of_reset {s : State} (hr : s.pins.rst = true) : step s = .next s.nextPins.resetRegisters := edge_reset _ hr

theorem step_of_busy {s : State} (hb : s.busy = true) (hr : s.pins.rst = false) : step s = .next s.nextPins.scanStep :=
  edge_busy hr hb

/-- A property that every edge keeps holds after every run. -/
theorem edges_preserve {P : State → Prop} (hstep : ∀ s t, P s → step s = .next t → P t) {n : Nat} {s t : State}
    (hs : P s) (h : edges n s = .next t) : P t := by
  induction n generalizing s with
  | zero =>
    cases h
    exact hs
  | succ n ih =>
    obtain ⟨u, hu⟩ := step_total s
    exact ih (hstep s u hs hu) (edges_succ n hu ▸ h)

/-! #### The ROM (R12) -/

theorem exec_rom {i : Instr} {s t : State} (h : exec i s = .next t) : t.rom = s.rom := by
  obtain ⟨k, rfl⟩ | ⟨w, -, -, rfl⟩ | ⟨d, rfl⟩ := exec_cases h <;> simp

theorem step_rom {s t : State} (h : step s = .next t) : t.rom = s.rom := by
  obtain ⟨-, rfl⟩ | ⟨-, -, rfl⟩ | ⟨-, -, -, he⟩ | ⟨-, -, -, rfl⟩ := edge_cases h
  · simp
  · simp
  · simpa using exec_rom he
  · simp

theorem edges_rom {n : Nat} {s t : State} (h : edges n s = .next t) : t.rom = s.rom :=
  edges_preserve (P := fun u => u.rom = s.rom) (fun _ _ hu hstep => (step_rom hstep).trans hu) rfl h

/-- Settles O4: each edge keeps the ROM, so every run does. -/
theorem romNeverChanges : Obligations.RomNeverChanges := by
  intro n s t h
  simp [edges_rom h]

/-! #### The sticky flags (R15) -/

/-- Going from `s` to `t`, each flag records the error of the response that `t` shows, and nothing else. -/
def RecordsError (s t : State) : Prop :=
  t.fltZero = (s.fltZero || (t.rspValid && t.rspErr == errZero)) ∧
  t.fltOp = (s.fltOp || (t.rspValid && t.rspErr == errOp))

/-- A step that keeps the flags records its error if it shows none. -/
theorem RecordsError.of_no_error {s t : State} (hz : t.fltZero = s.fltZero) (ho : t.fltOp = s.fltOp)
    (hn : t.rspValid = true → t.rspErr = errNone) : RecordsError s t := by
  cases hv : t.rspValid
  · simp [RecordsError, hz, ho, hv]
  · simp [RecordsError, hz, ho, hn hv, errNone, errZero, errOp]

theorem recordsError_raise (s : State) (k : ErrorKind) : RecordsError s (s.raise k) := by
  cases k <;> simp [RecordsError, ErrorKind.code, errZero, errOp]

theorem recordsError_scanStep (s : State) : RecordsError s s.scanStep := by
  refine .of_no_error (by simp) (by simp) fun hv => ?_
  rw [scanStep_hit (by simpa using hv)]
  rfl

theorem exec_recordsError {i : Instr} {s t : State} (h : exec i s = .next t) : RecordsError s t := by
  obtain ⟨k, rfl⟩ | ⟨w, -, -, rfl⟩ | ⟨d, rfl⟩ := exec_cases h
  · exact recordsError_raise s k
  · exact .of_no_error rfl rfl nofun
  · exact .of_no_error rfl rfl fun _ => rfl

theorem step_recordsError {s t : State} (hr : s.pins.rst = false) (h : step s = .next t) : RecordsError s t := by
  have : RecordsError s.nextPins t := by
    obtain ⟨hrst, -⟩ | ⟨-, -, rfl⟩ | ⟨-, -, -, he⟩ | ⟨-, -, -, rfl⟩ := edge_cases h
    · simp [hr] at hrst
    · exact recordsError_scanStep _
    · exact exec_recordsError he
    · exact .of_no_error rfl rfl nofun
  exact this

/-- The block with other flags. -/
def State.withFlags (s : State) (z o : Bool) : State := { s with fltZero := z, fltOp := o }

theorem raise_withFlags (s : State) (z o : Bool) (k : ErrorKind) :
    ∃ z' o', (s.withFlags z o).raise k = (s.raise k).withFlags z' o' := by
  cases k
  · exact ⟨true, o, rfl⟩
  · exact ⟨z, true, rfl⟩

theorem scanStep_withFlags (s : State) (z o : Bool) : (s.withFlags z o).scanStep = s.scanStep.withFlags z o := by
  cases h : s.scanHit
  · rw [scanStep_miss h, scanStep_miss (s := s.withFlags z o) h]; rfl
  · rw [scanStep_hit h, scanStep_hit (s := s.withFlags z o) h]; rfl

/-- No request reads the flags (10_state.md R15). -/
theorem exec_withFlags {i : Instr} {s t : State} (z o : Bool) (h : exec i s = .next t) :
    ∃ z' o', exec i (s.withFlags z o) = .next (t.withFlags z' o') := by
  obtain ⟨w, -, -, hi⟩ | ⟨-, k, hi⟩ | ⟨-, d, hi⟩ := exec_uniform i s.rom
  · cases (hi s).symm.trans h
    exact ⟨z, o, hi _⟩
  · cases (hi s).symm.trans h
    obtain ⟨z', o', hk⟩ := raise_withFlags s z o k
    exact ⟨z', o', hk ▸ hi _⟩
  · cases (hi s rfl).symm.trans h
    exact ⟨z, o, hi _ rfl⟩

/-- No edge reads the flags. -/
theorem step_withFlags {s t : State} (z o : Bool) (h : step s = .next t) :
    ∃ z' o', step (s.withFlags z o) = .next (t.withFlags z' o') := by
  obtain ⟨hr, rfl⟩ | ⟨hr, hb, rfl⟩ | ⟨hr, hb, hv, he⟩ | ⟨hr, hb, hv, rfl⟩ := edge_cases h
  · exact ⟨false, false, edge_reset _ hr⟩
  · exact ⟨z, o, (edge_busy (s := s.nextPins.withFlags z o) hr hb).trans (by rw [scanStep_withFlags])⟩
  · obtain ⟨z', o', he'⟩ := exec_withFlags z o he
    exact ⟨z', o', (edge_accept (s := s.nextPins.withFlags z o) hr hb hv).trans he'⟩
  · exact ⟨z, o, edge_idle (s := s.nextPins.withFlags z o) hr hb hv⟩

/-- Settles O24: an edge without reset records its error, a reset edge clears both flags, and no edge reads them. -/
theorem flagsAreStickyAndInert : Obligations.FlagsAreStickyAndInert := by
  refine ⟨fun s t hr h => step_recordsError hr h, fun s t hr h => ?_, fun s t z o h => ?_⟩
  · cases (step_of_reset hr).symm.trans h
    exact ⟨rfl, rfl⟩
  · obtain ⟨z', o', h'⟩ := step_withFlags z o h
    exact ⟨_, h', rfl⟩

/-! #### Reset values, and the scan registers between scans (R20) -/

/-- The block with other contents in its three scan registers. -/
def State.withScanRegs (s : State) (w mask : Word) (cnt : Count) : State :=
  { s with scanW := w, scanMask := mask, scanCnt := cnt }

/-- Equal, or idle and equal but for the scan registers: the difference that R20 calls unobservable. -/
def SameButIdleScan (s s' : State) : Prop :=
  s = s' ∨ s.busy = false ∧ ∃ w mask cnt, s' = s.withScanRegs w mask cnt

theorem SameButIdleScan.outputs_eq {s s' : State} (h : SameButIdleScan s s') : s.outputs = s'.outputs := by
  obtain rfl | ⟨-, w, mask, cnt, rfl⟩ := h <;> rfl

theorem SameButIdleScan.eq_of_busy {s s' : State} (h : SameButIdleScan s s') (hb : s.busy = true) : s = s' := by
  obtain rfl | ⟨hidle, -⟩ := h
  · rfl
  · simp [hidle] at hb

theorem raise_withScanRegs (s : State) (w mask : Word) (cnt : Count) (k : ErrorKind) :
    (s.withScanRegs w mask cnt).raise k = (s.raise k).withScanRegs w mask cnt := by
  cases k <;> rfl

/-- The start of a scan overwrites all three scan registers, and no other request touches them. -/
theorem exec_withScanRegs {i : Instr} {s t : State} (w mask : Word) (cnt : Count) (hb : s.busy = false)
    (h : exec i s = .next t) : ∃ t', exec i (s.withScanRegs w mask cnt) = .next t' ∧ SameButIdleScan t t' := by
  obtain ⟨v, -, -, hi⟩ | ⟨-, k, hi⟩ | ⟨-, d, hi⟩ := exec_uniform i s.rom
  · cases (hi s).symm.trans h
    exact ⟨_, hi _, .inl rfl⟩
  · cases (hi s).symm.trans h
    exact ⟨_, hi _, .inr ⟨by simpa using hb, w, mask, cnt, raise_withScanRegs s w mask cnt k⟩⟩
  · cases (hi s rfl).symm.trans h
    exact ⟨_, hi _ rfl, .inr ⟨hb, w, mask, cnt, rfl⟩⟩

theorem step_withScanRegs {s t : State} (w mask : Word) (cnt : Count) (hb : s.busy = false) (h : step s = .next t) :
    ∃ t', step (s.withScanRegs w mask cnt) = .next t' ∧ SameButIdleScan t t' := by
  obtain ⟨hr, rfl⟩ | ⟨-, hbusy, -⟩ | ⟨hr, -, hv, he⟩ | ⟨hr, -, hv, rfl⟩ := edge_cases h
  · exact ⟨_, edge_reset _ hr, .inl rfl⟩
  · simp [hb] at hbusy
  · obtain ⟨t', he', ht'⟩ := exec_withScanRegs (s := s.nextPins) w mask cnt hb he
    exact ⟨t', (edge_accept (s := s.nextPins.withScanRegs w mask cnt) hr hb hv).trans he', ht'⟩
  · exact ⟨_, edge_idle (s := s.nextPins.withScanRegs w mask cnt) hr hb hv, .inr ⟨hb, w, mask, cnt, rfl⟩⟩

theorem step_sameButIdleScan {s s' : State} (h : SameButIdleScan s s') :
    ∃ t t', step s = .next t ∧ step s' = .next t' ∧ SameButIdleScan t t' := by
  obtain ⟨t, ht⟩ := step_total s
  obtain rfl | ⟨hb, w, mask, cnt, rfl⟩ := h
  · exact ⟨t, t, ht, ht, .inl rfl⟩
  · obtain ⟨t', ht', hsame⟩ := step_withScanRegs w mask cnt hb ht
    exact ⟨t, t', ht, ht', hsame⟩

theorem edges_sameButIdleScan (n : Nat) {s s' : State} (h : SameButIdleScan s s') :
    ∃ t t', edges n s = .next t ∧ edges n s' = .next t' ∧ SameButIdleScan t t' := by
  induction n generalizing s s' with
  | zero => exact ⟨s, s', rfl, rfl, h⟩
  | succ n ih =>
    obtain ⟨u, u', hu, hu', hsame⟩ := step_sameButIdleScan h
    rw [edges_succ n hu, edges_succ n hu']
    exact ih hsame

/-- Settles O27: `SameButIdleScan` holds of the two blocks, every edge keeps it, and it gives equal pins. -/
theorem resetValuesAndUnobservableScanRegisters : Obligations.ResetValuesAndUnobservableScanRegisters := by
  refine ⟨⟨rfl, rfl, rfl, rfl, rfl, rfl, rfl, rfl, rfl⟩, fun s t hr h => ?_, fun n s w mask cnt hb => ?_⟩
  · cases (step_of_reset hr).symm.trans h
    rfl
  · obtain ⟨t, t', ht, ht', hsame⟩ := edges_sameButIdleScan n (s := s) (.inr ⟨hb, w, mask, cnt, rfl⟩)
    exact ⟨t, t', ht, ht', hsame.outputs_eq, hsame.eq_of_busy⟩

/-! #### `busy` (R14) -/

theorem decodeFields_eq_lsbscan_iff (op : OpCode) (d w : Word) : decodeFields op d = .lsbscan w ↔ op = 1 ∧ d = w := by
  cases hres : OpCode.reserved op
  · obtain rfl | rfl | rfl | rfl := not_reserved_cases op hres <;> simp [decodeFields, OpCode.reserved]
  · have hop : op ≠ 1#3 := by
      rintro rfl
      simp [OpCode.reserved] at hres
    simp [decodeFields, hres, hop]

theorem startsScan_request_iff (p : Pins) : startsScan p.request ↔ p.reqOp = 1 ∧ p.reqData ≠ 0 := by
  simp [startsScan, Pins.request, decode, decodeFields_eq_lsbscan_iff, and_assoc]

theorem exec_busy_iff {i : Instr} {s t : State} (hb : s.busy = false) (h : exec i s = .next t) :
    t.busy = true ↔ startsScan i := by
  obtain ⟨w, hw, hne, hi⟩ | ⟨hi, k, hk⟩ | ⟨hi, d, hd⟩ := exec_uniform i s.rom
  · cases (hi s).symm.trans h
    exact iff_of_true rfl ⟨w, hw, hne⟩
  · cases (hk s).symm.trans h
    exact iff_of_false (by simp [hb]) hi
  · cases (hd s rfl).symm.trans h
    exact iff_of_false (by simp [hb]) hi

theorem step_busy_of_idle_iff {s t : State} (hb : s.busy = false) (h : step s = .next t) :
    t.busy = true ↔ accepts s.pins s = true ∧ startsScan s.pins.request := by
  obtain ⟨hr, rfl⟩ | ⟨-, hbusy, -⟩ | ⟨hr, hb', hv, he⟩ | ⟨-, -, hv, rfl⟩ := edge_cases h
  · simp [accepts, hr]
  · simp [hb] at hbusy
  · simp [exec_busy_iff hb' he, accepts, State.reqReady, hr, hb, hv]
  · simp [accepts, hv, hb]

/-- Settles O30: an idle edge sets `busy` only by starting a scan, and an iteration clears it exactly where its test succeeds. -/
theorem busyExactlyWhileAScanIsInFlight : Obligations.BusyExactlyWhileAScanIsInFlight := by
  refine ⟨fun s t hb h => ?_, fun s t hb hr h => ?_, fun s => rfl⟩
  · rw [step_busy_of_idle_iff hb h, startsScan_request_iff]
  · cases (step_of_busy hb hr).symm.trans h
    rw [← scanHit_iff]
    simp [hb]

end Sys2Proof.Machine
end

section
/-! ### The ROM family (20_memory.md): what the derived table holds, and what the multiply path needs of it -/
namespace Sys2Proof.Machine

/-! #### The derivation loop and the ROM invariant (R33, R34) -/

/-- A turn of the derivation loop leaves the entry it writes holding its position. -/
theorem recordPosition_same (c : Word) (t : Vector Index 64) (b : Nat) :
    (recordPosition c t b)[(deBruijnIndex c b).toNat]'(deBruijnIndex c b).isLt = BitVec.ofNat 6 b := by
  simp [recordPosition]

/-- A turn of the derivation loop keeps every other entry. -/
theorem recordPosition_other (c : Word) (t : Vector Index 64) {b : Nat} {i : Index} (h : deBruijnIndex c b ≠ i) :
    (recordPosition c t b)[i.toNat]'i.isLt = t[i.toNat]'i.isLt :=
  Vector.getElem_set_ne _ _ (mt BitVec.eq_of_toNat_eq h)

/-- After `n` turns the loop has recorded the first `n` positions, whatever the table held before. -/
theorem foldl_recordPosition {c : Word} (h : validConstant c = true) (t : Vector Index 64) {n : Nat} (hn : n ≤ 64)
    {b : Nat} (hb : b < n) :
    ((List.range n).foldl (recordPosition c) t)[(deBruijnIndex c b).toNat]'(deBruijnIndex c b).isLt =
      BitVec.ofNat 6 b := by
  induction n with
  | zero => omega
  | succ n ih =>
    rw [List.range_succ, List.foldl_concat]
    by_cases hbn : b = n
    · subst hbn
      exact recordPosition_same c _ b
    · have hne : deBruijnIndex c n ≠ deBruijnIndex c b := fun e =>
        hbn (validConstant_distinct h (by omega) (by omega) e).symm
      rw [recordPosition_other c _ hne]
      exact ih (by omega) (by omega)

/-- The derived table records each position at its index (20_memory.md R33). -/
theorem deriveTable_deBruijnIndex {c : Word} (h : validConstant c = true) {b : Nat} (hb : b < 64) :
    (deriveTable c)[(deBruijnIndex c b).toNat]'(deBruijnIndex c b).isLt = BitVec.ofNat 6 b :=
  foldl_recordPosition h _ le_rfl hb

/-- The ROM invariant `T[idx_C(b)] = b` (20_memory.md R34). -/
theorem Memory.read_deBruijnIndex {m : Memory} (h : m.wf = true) {b : Nat} (hb : b < 64) :
    m.read (deBruijnIndex m.constant b) = BitVec.ofNat 6 b := by
  simp only [Memory.read, Memory.table_of_wf h]
  exact deriveTable_deBruijnIndex (Memory.valid_of_wf h) hb

/-! #### The multiply path on a Word with a lowest set bit (40_lsbmul.md R71 to R75) -/

/-- `neg64` is two's complement negation (40_lsbmul.md R79). -/
theorem neg64_eq_neg (w : Word) : neg64 w = -w := by
  apply BitVec.eq_of_toNat_eq
  simp [neg64, BitVec.toNat_neg]

/-- Isolation leaves exactly the lowest set bit: below it `w` is clear, and above it negation inverts `w`. -/
theorem isolate_of_lowestSet {w : Word} {b : Nat} (h : LowestSet w b) : isolate w = 1#64 <<< b := by
  obtain ⟨-, hbit, hclear⟩ := h
  rw [isolate, neg64_eq_neg, ← BitVec.twoPow_eq]
  apply BitVec.eq_of_getLsbD_eq
  intro i hi
  rw [BitVec.getLsbD_and, BitVec.getLsbD_neg, BitVec.getLsbD_twoPow]
  obtain hlt | rfl | hgt := Nat.lt_trichotomy i b
  · simp [hclear i hlt, hlt.ne']
  · have hnone : ¬ ∃ j < i, w.getLsbD j = true := by
      rintro ⟨j, hj, hset⟩
      simp [hclear j hj] at hset
    simp [hi, hbit, hnone]
  · have hsome : ∃ j < i, w.getLsbD j = true := ⟨b, hgt, hbit⟩
    simp [hsome, hi, hgt.ne]

/-- The product of a Word selects the index of its lowest set bit (40_lsbmul.md R72, R73). -/
theorem mulIndex_of_lowestSet (m : Memory) {w : Word} {b : Nat} (h : LowestSet w b) :
    mulIndex m w = deBruijnIndex m.constant b := by
  rw [mulIndex, deBruijnProduct, isolate_of_lowestSet h, deBruijnIndex]

/-- Adding 1 in 7 bits does not wrap (40_lsbmul.md R75). -/
theorem oneIndexed_toNat (p : Index) : (oneIndexed p).toNat = p.toNat + 1 := by
  have := p.isLt
  simp only [oneIndexed, BitVec.toNat_add, BitVec.toNat_setWidth, BitVec.ofNat_eq_ofNat, BitVec.toNat_ofNat]
  omega

/-- Where the ROM holds a Word's lowest set position at its index, the multiply path answers that position, 1-indexed. -/
theorem mulPath_toNat_of_read {m : Memory} {w : Word} {b : Nat} (h : LowestSet w b)
    (hr : m.read (deBruijnIndex m.constant b) = BitVec.ofNat 6 b) : (mulPath m w).toNat = b + 1 := by
  have hb := h.1
  rw [mulPath, mulIndex_of_lowestSet m h, hr, oneIndexed_toNat, BitVec.toNat_ofNat, Nat.mod_eq_of_lt hb]

/-- Settles O3: the derivation loop establishes the invariant, and the multiply path reads the one entry at the index of the lowest
set bit. -/
theorem romInvariantIsWhatMulPathNeeds : Obligations.RomInvariantIsWhatMulPathNeeds :=
  ⟨fun _ hm _ hb => Memory.read_deBruijnIndex hm hb, fun _ hinv _ b h => mulPath_toNat_of_read h (hinv b h.1)⟩

end Sys2Proof.Machine
end

section
/-! ### The encoding family (30_encoding.md): what a code selects, the bits an operation ignores, and the response word -/
namespace Sys2Proof

/-! #### The opcode map (R50, R52) -/

theorem decodeFields_zero (d : Word) : decodeFields 0 d = .lsbmul d := rfl

theorem decodeFields_one (d : Word) : decodeFields 1 d = .lsbscan d := rfl

theorem decodeFields_two (d : Word) : decodeFields 2 d = .romt (romtIgnoredField d) (romtIndexField d) := rfl

theorem decodeFields_three (d : Word) : decodeFields 3 d = .romc d := rfl

theorem decodeFields_of_reserved {op : OpCode} (h : OpCode.reserved op = true) (d : Word) :
    decodeFields op d = .rsvd op d := by
  simp [decodeFields, h]

/-- The table index of a `ROMT` request is the low 6 bits of its data, read as a number. -/
theorem romtIndexField_ofNat (n : Nat) : romtIndexField (BitVec.ofNat 64 n) = BitVec.ofNat 6 n := by
  apply BitVec.eq_of_toNat_eq
  simp only [romtIndexField, BitVec.extractLsb'_toNat, BitVec.toNat_ofNat, Nat.shiftRight_zero]
  omega

/-- Decoding reads the code and the data off the word as the quotient and the remainder by `2 ^ 64` (30_encoding.md R50). -/
theorem decode_eq_decodeFields_ofNat (r : ReqWord) :
    decode r = decodeFields (BitVec.ofNat 3 (r.toNat / 2 ^ 64)) (BitVec.ofNat 64 r.toNat) := by
  have hop : reqOpField r = BitVec.ofNat 3 (r.toNat / 2 ^ 64) := by
    rw [← reqOpField_toNat, BitVec.ofNat_toNat, BitVec.setWidth_eq]
  have hdata : reqDataField r = BitVec.ofNat 64 r.toNat :=
    BitVec.eq_of_toNat_eq (by rw [reqDataField_toNat, BitVec.toNat_ofNat])
  rw [decode, hop, hdata]

/-- A word whose code is 4 or more has a reserved code: the field has 3 bits and loses nothing. -/
theorem reserved_of_four_le {r : ReqWord} (h : 4 ≤ r.toNat / 2 ^ 64) :
    OpCode.reserved (BitVec.ofNat 3 (r.toNat / 2 ^ 64)) = true := by
  rw [reserved_iff, BitVec.toNat_ofNat]
  have := r.isLt
  omega

/-- Settles O48: the word's quotient by `2 ^ 64` is its code, and each code has its own equation of `decodeFields`. -/
theorem opcodeMapAccountsForAllEightCodes : Obligations.OpcodeMapAccountsForAllEightCodes := by
  intro r
  rw [decode_eq_decodeFields_ofNat]
  refine ⟨fun h => ?_, fun h => ?_, fun h => ?_, fun h => ?_, fun h => ?_⟩
  · rw [h]
    exact decodeFields_zero _
  · rw [h]
    exact decodeFields_one _
  · rw [h, ← romtIndexField_ofNat]
    exact ⟨_, decodeFields_two _⟩
  · rw [h]
    exact ⟨_, decodeFields_three _⟩
  · exact decodeFields_of_reserved (reserved_of_four_le h) _

end Sys2Proof

namespace Sys2Proof.Machine

/-! #### The bits that an operation ignores (R53) -/

theorem exec_romt_ignored (x y : BitVec 58) (i : Index) (s : State) : exec (.romt x i) s = exec (.romt y i) s := rfl

theorem exec_romc_ignored (x y : Word) (s : State) : exec (.romc x) s = exec (.romc y) s := rfl

theorem exec_rsvd_ignored (op : OpCode) (x y : Word) (s : State) : exec (.rsvd op x) s = exec (.rsvd op y) s := rfl

/-- A request does the same with any data that agrees on the bits its code uses (30_encoding.md R53). -/
theorem exec_decodeFields_congr {op : OpCode} {d e : Word} (hword : op = 0 ∨ op = 1 → d = e)
    (hindex : op = 2 → romtIndexField d = romtIndexField e) (s : State) :
    exec (decodeFields op d) s = exec (decodeFields op e) s := by
  cases hres : OpCode.reserved op
  · obtain rfl | rfl | rfl | rfl := not_reserved_cases op hres
    · rw [hword (.inl rfl)]
    · rw [hword (.inr rfl)]
    · rw [decodeFields_two, decodeFields_two, hindex rfl]
      exact exec_romt_ignored _ _ _ s
    · exact exec_romc_ignored d e s
  · rw [decodeFields_of_reserved hres, decodeFields_of_reserved hres]
    exact exec_rsvd_ignored op d e s

theorem Pins.request_eq (p : Pins) : p.request = decodeFields p.reqOp p.reqData := by
  simp [Pins.request, decode]

theorem exec_request_congr {p q : Pins} (hop : p.reqOp = q.reqOp)
    (hword : p.reqOp = 0 ∨ p.reqOp = 1 → p.reqData = q.reqData)
    (hindex : p.reqOp = 2 → romtIndexField p.reqData = romtIndexField q.reqData) (s : State) :
    exec p.request s = exec q.request s := by
  rw [Pins.request_eq, Pins.request_eq, ← hop]
  exact exec_decodeFields_congr hword hindex s

/-- An edge sees the request pins only through what their request does. -/
theorem edge_congr {p q : Pins} {s : State} (hrst : p.rst = q.rst) (hvalid : p.reqValid = q.reqValid)
    (hexec : exec p.request s = exec q.request s) : edge p s = edge q s := by
  simp only [edge, hrst, hvalid, hexec]

theorem step_cons (s : State) (p : Pins) (rest : List Pins) :
    step { s with inputs := p :: rest } = edge p { s with inputs := rest } := rfl

/-- Settles O20: `decodeFields` shows which bits each code reads, and data that agrees on them makes the same edge. -/
theorem ignoredOperandBitsHaveNoEffect : Obligations.IgnoredOperandBitsHaveNoEffect := by
  refine ⟨fun d => ?_, fun s p q rest hrst hvalid hop hword hindex => ?_⟩
  · exact ⟨decodeFields_zero d, decodeFields_one d, ⟨_, decodeFields_two d⟩, ⟨_, decodeFields_three d⟩⟩
  · rw [step_cons, step_cons]
    exact edge_congr hrst hvalid (exec_request_congr hop hword hindex _)

/-! #### The response word (R51) -/

theorem Response.word_err (r : Response) : r.word.extractLsb' 64 2 = r.err :=
  BitVec.extractLsb'_append_eq_left

theorem Response.word_data (r : Response) : r.word.extractLsb' 0 64 = r.data :=
  BitVec.extractLsb'_append_eq_right

theorem response_of_valid {s : State} (h : s.rspValid = true) :
    s.response = some { data := s.rspData, err := s.rspErr } := by
  simp [State.response, h]

theorem response_of_not_valid {s : State} (h : s.rspValid = false) : s.response = none := by
  simp [State.response, h]

/-- Settles O50: a response is shown exactly while `rsp_valid = 1`, and its word is the two registers side by side. -/
theorem responseWordHoldsErrorAndData : Obligations.ResponseWordHoldsErrorAndData :=
  ⟨fun _ h => ⟨_, response_of_valid h, Response.word_err _, Response.word_data _⟩, fun _ h => response_of_not_valid h⟩

end Sys2Proof.Machine
end

section
/-! ### The LSBMUL family (40_lsbmul.md): isolation, the 1-indexed result, the zero Word, and what the request writes and reads -/
namespace Sys2Proof.Machine

/-! #### Isolation, and the one thing the path keeps of its operand (R71) -/

theorem neg64_toNat (w : Word) : (neg64 w).toNat = (2 ^ 64 - w.toNat) % 2 ^ 64 := by
  rw [neg64_eq_neg, BitVec.toNat_neg]

/-- Words with the same index read the same entry. -/
theorem mulPath_congr {m : Memory} {w v : Word} (h : mulIndex m w = mulIndex m v) : mulPath m w = mulPath m v := by
  rw [mulPath, mulPath, h]

theorem mulPath_eq_of_lowestSet (m : Memory) {w v : Word} {b : Nat} (hw : LowestSet w b) (hv : LowestSet v b) :
    mulPath m w = mulPath m v :=
  mulPath_congr ((mulIndex_of_lowestSet m hw).trans (mulIndex_of_lowestSet m hv).symm)

theorem isolate_zero : isolate 0 = 0 := BitVec.zero_and

/-- Settles O5: isolation leaves `1 << b`, so the index, and with it the result, is that of `b` alone. -/
theorem isolationKeepsExactlyTheLowestSetBit : Obligations.IsolationKeepsExactlyTheLowestSetBit :=
  ⟨fun w => ⟨neg64_toNat w, rfl⟩, fun _ _ h => isolate_of_lowestSet h, fun m _ _ _ hw hv => mulPath_eq_of_lowestSet m hw hv,
    by decide, isolate_zero, by decide, by decide⟩

/-! #### The result lies in 1..64 (R75) -/

theorem mulPath_mem_range (m : Memory) (w : Word) : 1 ≤ (mulPath m w).toNat ∧ (mulPath m w).toNat ≤ 64 := by
  have hentry := (m.read (mulIndex m w)).isLt
  rw [mulPath, oneIndexed_toNat]
  omega

/-- Settles O7: a table entry has 6 bits, so the sum is at most 64 and fits in 7. -/
theorem oneIndexedResultIsExactAndInRange : Obligations.OneIndexedResultIsExactAndInRange :=
  ⟨oneIndexed_toNat, mulPath_mem_range⟩

/-! #### What `LSBMUL` does at its acceptance edge (R70) -/

theorem exec_lsbmul_zero (s : State) : exec (.lsbmul 0) s = .next (s.raise .zeroOperand) := rfl

theorem exec_lsbmul_of_ne_zero {w : Word} (hw : w ≠ 0) (s : State) :
    exec (.lsbmul w) s = .next (s.respond (countToData (mulPath s.rom w)) errNone) := by
  simp [exec, execLsbmul, operandIsZero_false hw]

/-! #### The zero Word, in the unit alone and in the block (R77) -/

theorem deBruijnProduct_zero (m : Memory) : deBruijnProduct m 0 = 0 := by
  rw [deBruijnProduct, isolate_zero]
  exact BitVec.zero_mul

theorem mulIndex_zero (m : Memory) : mulIndex m 0 = 0 := by
  rw [mulIndex, deBruijnProduct_zero]
  rfl

theorem lowestSet_one : LowestSet 1 0 := ⟨by decide, by decide, nofun⟩

/-- Index 0 is that of bit 0, so the Word 1 selects it as the zero Word does (20_memory.md R32 (b)). -/
theorem mulIndex_one {m : Memory} (h : m.wf = true) : mulIndex m 1 = 0 := by
  rw [mulIndex_of_lowestSet m lowestSet_one, validConstant_zero (Memory.valid_of_wf h)]

/-- `T[0] = 0` (20_memory.md R33): the ROM invariant at bit 0. -/
theorem Memory.read_zero {m : Memory} (h : m.wf = true) : m.read 0 = 0 :=
  calc m.read 0 = m.read (deBruijnIndex m.constant 0) := by rw [validConstant_zero (Memory.valid_of_wf h)]
    _ = 0 := Memory.read_deBruijnIndex h (b := 0) (by decide)

theorem mulPath_zero {m : Memory} (h : m.wf = true) : mulPath m 0 = 1 := by
  rw [mulPath, mulIndex_zero, Memory.read_zero h]
  rfl

/-- Settles O8: the zero Word selects index 0, the index of bit 0, and the block's operand check comes before the unit. -/
theorem mulPathOnZeroIsOneButTheBlockFaults : Obligations.MulPathOnZeroIsOneButTheBlockFaults := by
  refine ⟨fun m hm => ?_, fun s => ⟨_, exec_lsbmul_zero s, rfl, rfl, rfl⟩⟩
  exact ⟨isolate_zero, deBruijnProduct_zero m, mulIndex_zero m, Memory.read_zero hm, mulPath_zero hm,
    mulPath_congr ((mulIndex_zero m).trans (mulIndex_one hm).symm)⟩

/-! #### Purity and constant time (R78) -/

/-- Every `LSBMUL` answers at once, and writes the response registers only, with the flag for a zero operand. -/
theorem exec_lsbmul_frame (s : State) (w : Word) : ∃ t, exec (.lsbmul w) s = .next t ∧ t.rspValid = true ∧
    t = { s with rspData := t.rspData, rspErr := t.rspErr, rspValid := true, fltZero := s.fltZero || w == 0 } := by
  by_cases hw : w = 0
  · subst hw
    exact ⟨_, exec_lsbmul_zero s, rfl, by simp [State.raise, State.respond]⟩
  · exact ⟨_, exec_lsbmul_of_ne_zero hw s, rfl, by rw [beq_false_of_ne hw, Bool.or_false]; rfl⟩

/-- The response of `LSBMUL` is that of the transaction level, a function of the request and the ROM (10_state.md R19). -/
theorem exec_lsbmul_response {s t : State} {w : Word} (h : exec (.lsbmul w) s = .next t) :
    t.response = respondTo s.rom (.lsbmul w) := by
  by_cases hw : w = 0
  · subst hw
    cases (exec_lsbmul_zero s).symm.trans h
    rfl
  · cases (exec_lsbmul_of_ne_zero hw s).symm.trans h
    simp only [respondTo, requestError, operandIsZero_false hw]
    rfl

/-- Settles O10: each operand has its equation of `exec`, and the response is `respondTo` of the ROM and the request. -/
theorem lsbmulIsPureAndConstantTime : Obligations.LsbmulIsPureAndConstantTime := by
  refine ⟨exec_lsbmul_frame, fun s s' t t' w hrom h h' => ?_⟩
  rw [exec_lsbmul_response h, exec_lsbmul_response h', hrom]

end Sys2Proof.Machine
end

section
/-! ### The LSBSCAN family (41_lsbscan.md): one test an edge, the scan that would never end, and the ROM that is not read -/
namespace Sys2Proof.Machine

/-! #### One iteration (R92) -/

/-- The test of a one-bit mask is the test of that bit. -/
theorem and_shiftLeft_one_ne_zero_iff (w : Word) {b : Nat} (hb : b < 64) :
    w &&& 1#64 <<< b ≠ 0 ↔ w.getLsbD b = true := by
  have hbit : 1#64 <<< b ≠ 0 := fun h => by simpa [hb] using congrArg (·.getLsbD b) h
  rw [← BitVec.twoPow_eq] at hbit ⊢
  rw [BitVec.and_twoPow]
  split_ifs with h
  · exact iff_of_true hbit h
  · exact iff_of_false (not_not_intro rfl) h

/-- Settles O12: the edge runs one `ScanStep`, whose test decides between its two branches. -/
theorem scanIterationMakesOneTest : Obligations.ScanIterationMakesOneTest := by
  refine ⟨fun s hb hr => ?_, fun s _ _ hmask => ?_⟩
  · rw [step_of_busy hb hr]
    split_ifs with hhit
    · rw [scanStep_hit (s := s.nextPins) ((scanHit_iff s).mpr hhit)]
      rfl
    · rw [scanStep_miss (s := s.nextPins) (Bool.eq_false_iff.mpr (mt (scanHit_iff s).mp hhit))]
      rfl
  · rw [hmask]
    exact and_shiftLeft_one_ne_zero_iff _ (by omega)

/-! #### The scan of the zero Word (R96) -/

theorem scanHit_of_scanW_zero {s : State} (hw : s.scanW = 0) : s.scanHit = false := by
  simp [State.scanHit, hw]

theorem step_scan_of_zero {s : State} (hb : s.busy = true) (hw : s.scanW = 0) (hr : s.pins.rst = false) :
    step s = .next s.nextPins.advanceScan := by
  rw [step_of_busy hb hr, scanStep_miss (s := s.nextPins) (scanHit_of_scanW_zero hw)]

/-- A run without reset begins with an edge without reset, and goes on without. -/
theorem noResetFor_succ {n : Nat} {s : State} :
    NoResetFor (n + 1) s ↔ s.pins.rst = false ∧ NoResetFor n s.nextPins := by
  cases h : s.inputs <;> simp [NoResetFor, State.pins, h, Pins.idle]

/-- The scan of zero goes on for as long as there is no reset, without a response. -/
theorem edges_scan_of_zero (n : Nat) {s : State} (hb : s.busy = true) (hw : s.scanW = 0) (hr : NoResetFor n s) :
    ∃ t, edges n s = .next t ∧ t.busy = true ∧ t.scanW = 0 ∧ t.rspData = s.rspData ∧ t.rspErr = s.rspErr ∧
      (1 ≤ n ∨ s.rspValid = false → t.rspValid = false) := by
  induction n generalizing s with
  | zero => exact ⟨s, rfl, hb, hw, rfl, rfl, by simp⟩
  | succ n ih =>
    obtain ⟨hrst, hrest⟩ := noResetFor_succ.mp hr
    obtain ⟨t, ht, hbusy, hscanW, hdata, herr, hvalid⟩ := ih (s := s.nextPins.advanceScan) hb hw hrest
    exact ⟨t, by rw [edges_succ n (step_scan_of_zero hb hw hrst), ht], hbusy, hscanW, hdata, herr,
      fun _ => hvalid (.inr rfl)⟩

/-- The loop of `ScanPath` finds no set bit in the zero Word, from any mask and counter and in any number of tests. -/
theorem scanLoop_zero_word (n : Nat) (mask : Word) (cnt : Count) : scanLoop n 0 mask cnt = none := by
  induction n generalizing mask cnt with
  | zero => rfl
  | succ n ih => simpa [scanLoop] using ih (mask <<< 1) (cnt + 1)

theorem exec_lsbscan_zero (s : State) : exec (.lsbscan 0) s = .next (s.raise .zeroOperand) := rfl

/-- Settles O15: no test on zero succeeds, so each edge without reset is a failed test; the block's operand check comes first. -/
theorem scanOfZeroNeverResponds : Obligations.ScanOfZeroNeverResponds := by
  refine ⟨fun n s hb hw hr => ?_, fun s _ _ hrst => ⟨_, step_of_reset hrst, rfl⟩, scanLoop_zero_word _ _ _,
    fun s => ⟨_, exec_lsbscan_zero s, rfl, rfl, rfl⟩⟩
  obtain ⟨t, ht, hbusy, hscanW, hdata, herr, hvalid⟩ := edges_scan_of_zero n hb hw hr
  exact ⟨t, ht, hbusy, by simp [State.reqReady, hbusy], hscanW, hdata, herr, fun hn => hvalid (.inl hn)⟩

/-! #### The ROM is not read (R95) -/

/-- The block with another ROM. -/
def State.withRom (s : State) (m : Memory) : State := { s with rom := m }

theorem exec_lsbscan_of_ne_zero {w : Word} (hw : w ≠ 0) (s : State) :
    exec (.lsbscan w) s = .next (s.startScan w) := by
  simp [exec, execLsbscan, operandIsZero_false hw]

theorem exec_lsbscan_withRom {s t : State} {w : Word} (m : Memory) (h : exec (.lsbscan w) s = .next t) :
    exec (.lsbscan w) (s.withRom m) = .next (t.withRom m) := by
  by_cases hw : w = 0
  · subst hw
    cases (exec_lsbscan_zero s).symm.trans h
    rfl
  · cases (exec_lsbscan_of_ne_zero hw s).symm.trans h
    exact exec_lsbscan_of_ne_zero hw _

theorem scanStep_withRom (s : State) (m : Memory) : (s.withRom m).scanStep = s.scanStep.withRom m := by
  cases h : s.scanHit
  · rw [scanStep_miss h, scanStep_miss (s := s.withRom m) h]
    rfl
  · rw [scanStep_hit h, scanStep_hit (s := s.withRom m) h]
    rfl

/-- Settles O16: both branches of the start, and both of an iteration, commute with the exchange of the ROM. -/
theorem lsbscanDoesNotReadTheRom : Obligations.LsbscanDoesNotReadTheRom := by
  refine ⟨fun m s t w h => exec_lsbscan_withRom m h, fun m s t hb hr h => ?_⟩
  cases (step_of_busy hb hr).symm.trans h
  calc step (s.withRom m) = .next (s.nextPins.withRom m).scanStep := step_of_busy hb hr
    _ = .next (s.nextPins.scanStep.withRom m) := by rw [scanStep_withRom]

end Sys2Proof.Machine
end

section
/-! ### The ROM operations family (42_rom_ops.md): the table entry and the constant at the port -/
namespace Sys2Proof.Machine

/-! #### What the two requests do at their acceptance edge (R110, R111) -/

theorem exec_romt (ignored : BitVec 58) (i : Index) (s : State) :
    exec (.romt ignored i) s = .next (s.respond (entryToData (s.rom.read i)) errNone) := rfl

theorem exec_romc (ignored : Word) (s : State) : exec (.romc ignored) s = .next (s.respond s.rom.constant errNone) := rfl

/-! #### The table as a permutation of the positions (R110) -/

/-- Every position is an entry: the one at its own De Bruijn index. -/
theorem Memory.read_surjective {m : Memory} (h : m.wf = true) : Function.Surjective m.read := fun p =>
  ⟨deBruijnIndex m.constant p.toNat, by rw [Memory.read_deBruijnIndex h p.isLt, BitVec.ofNat_toNat, BitVec.setWidth_eq]⟩

/-- The table has as many entries as there are positions, so no position is an entry twice (20_memory.md R33). -/
theorem Memory.read_injective {m : Memory} (h : m.wf = true) : Function.Injective m.read :=
  Finite.injective_iff_surjective.mpr (Memory.read_surjective h)

theorem deBruijnIndex_eq_iff_read {m : Memory} (h : m.wf = true) {b : Nat} (hb : b < 64) (i : Index) :
    deBruijnIndex m.constant b = i ↔ m.read i = BitVec.ofNat 6 b := by
  rw [← Memory.read_deBruijnIndex h hb, (Memory.read_injective h).eq_iff, eq_comm]

/-- Settles O17: the 64 entries cover the 64 positions, so the table is the inverse of the De Bruijn index. -/
theorem romtAnswersTheTableEntry : Obligations.RomtAnswersTheTableEntry :=
  ⟨fun s ignored i => exec_romt ignored i s, fun _ hm =>
    ⟨fun i _ hb => deBruijnIndex_eq_iff_read hm hb i, fun _ _ e => Memory.read_injective hm e, Memory.read_zero hm⟩⟩

/-! #### The top bits of the constant (R111) -/

theorem topIndex_eq_extractLsb' (prod : Word) : topIndex prod = prod.extractLsb' 58 6 :=
  BitVec.setWidth_ushiftRight_eq_extractLsb

/-- Bit 0 selects the top bits of the constant itself (20_memory.md R32 (b)). -/
theorem deBruijnIndex_bit0 (c : Word) : deBruijnIndex c 0 = c.extractLsb' 58 6 := by
  rw [deBruijnIndex, BitVec.shiftLeft_zero, BitVec.one_mul, topIndex_eq_extractLsb']

/-- Settles O18: the top bits of the constant are the index of bit 0, which a valid constant has at 0. -/
theorem romcAnswersTheConstant : Obligations.RomcAnswersTheConstant := by
  refine ⟨fun s ignored => exec_romc ignored s, fun m hm => ?_⟩
  rw [← deBruijnIndex_bit0, validConstant_zero (Memory.valid_of_wf hm)]

end Sys2Proof.Machine
end

section
/-! ### The exceptions family (60_exceptions.md): which request raises which error, and what an accepted request answers -/
namespace Sys2Proof.Machine

/-! #### An accepted request runs at the coming edge (R124) -/

theorem accepts_iff (p : Pins) (s : State) :
    accepts p s = true ↔ p.rst = false ∧ p.reqValid = true ∧ s.busy = false := by
  simp [accepts, State.reqReady, and_assoc]

theorem accepts_of_reset {p : Pins} (s : State) (hr : p.rst = true) : accepts p s = false := by
  simp [accepts, hr]

theorem step_of_accepts {s : State} (ha : accepts s.pins s = true) : step s = exec s.pins.request s.nextPins := by
  obtain ⟨hr, hv, hb⟩ := (accepts_iff _ _).mp ha
  exact edge_accept hr hb hv

/-! #### A request raises the error it has, and otherwise answers without one (R120, R123) -/

theorem exec_rsvd (op : OpCode) (ignored : Word) (s : State) :
    exec (.rsvd op ignored) s = .next (s.raise .reservedOp) := rfl

theorem exec_of_requestError {i : Instr} {k : ErrorKind} (h : requestError i = some k) (s : State) :
    exec i s = .next (s.raise k) := by
  cases i with
  | lsbmul w =>
    obtain ⟨rfl, rfl⟩ : w = 0 ∧ .zeroOperand = k := by simpa [requestError] using h
    exact exec_lsbmul_zero s
  | lsbscan w =>
    obtain ⟨rfl, rfl⟩ : w = 0 ∧ .zeroOperand = k := by simpa [requestError] using h
    exact exec_lsbscan_zero s
  | romt ignored a => cases h
  | romc ignored => cases h
  | rsvd op ignored =>
    cases h
    exact exec_rsvd op ignored s

/-- A request without an error starts a scan or answers at once, so a response it gives has no error code. -/
theorem exec_rspErr_of_no_requestError {i : Instr} {s t : State} (hn : requestError i = none) (h : exec i s = .next t)
    (hv : t.rspValid = true) : t.rspErr = errNone := by
  cases i with
  | lsbmul w =>
    have hw : w ≠ 0 := by simpa [requestError] using hn
    cases (exec_lsbmul_of_ne_zero hw s).symm.trans h
    rfl
  | lsbscan w =>
    have hw : w ≠ 0 := by simpa [requestError] using hn
    cases (exec_lsbscan_of_ne_zero hw s).symm.trans h
    cases hv
  | romt ignored a =>
    cases (exec_romt ignored a s).symm.trans h
    rfl
  | romc ignored =>
    cases (exec_romc ignored s).symm.trans h
    rfl
  | rsvd op ignored => cases hn

theorem ErrorKind.code_injective : Function.Injective ErrorKind.code := by
  intro j k
  cases j <;> cases k <;> decide

theorem ErrorKind.code_ne_errNone (k : ErrorKind) : k.code ≠ errNone := by
  cases k <;> decide

/-- The answer at the acceptance edge has an error's code exactly when the request has that error. -/
theorem exec_answers_code_iff {i : Instr} {s t : State} (h : exec i s = .next t) (k : ErrorKind) :
    (t.rspValid = true ∧ t.rspErr = k.code) ↔ requestError i = some k := by
  cases hi : requestError i with
  | none =>
    refine iff_of_false (fun ⟨hv, he⟩ => k.code_ne_errNone ?_) nofun
    rw [← he, exec_rspErr_of_no_requestError hi h hv]
  | some j =>
    cases (exec_of_requestError hi s).symm.trans h
    simp [ErrorKind.code_injective.eq_iff]

/-! #### The same at the port -/

theorem step_of_requestError {s : State} {k : ErrorKind} (ha : accepts s.pins s = true)
    (hk : requestError s.pins.request = some k) : step s = .next (s.nextPins.raise k) := by
  rw [step_of_accepts ha, exec_of_requestError hk]

theorem requestError_of_reserved {p : Pins} (h : OpCode.reserved p.reqOp = true) :
    requestError p.request = some .reservedOp := by
  rw [Pins.request_eq, decodeFields_of_reserved h]
  rfl

/-- The code is decoded first, so a zero operand counts for the codes 0 and 1 only (60_exceptions.md R121, R124). -/
theorem requestError_decodeFields_zeroOperand_iff (op : OpCode) (d : Word) :
    requestError (decodeFields op d) = some .zeroOperand ↔ (op = 0 ∨ op = 1) ∧ d = 0 := by
  cases hres : OpCode.reserved op
  · obtain rfl | rfl | rfl | rfl := not_reserved_cases op hres
    · rw [decodeFields_zero]
      simp [requestError]
    · rw [decodeFields_one]
      simp [requestError]
    · rw [decodeFields_two]
      simp [requestError]
    · rw [decodeFields_three]
      simp [requestError]
  · rw [decodeFields_of_reserved hres]
    refine iff_of_false nofun ?_
    rintro ⟨rfl | rfl, -⟩ <;> cases hres

theorem requestError_request_zeroOperand_iff (p : Pins) :
    requestError p.request = some .zeroOperand ↔ (p.reqOp = 0 ∨ p.reqOp = 1) ∧ p.reqData = 0 := by
  rw [Pins.request_eq, requestError_decodeFields_zeroOperand_iff]

/-! #### The statements -/

/-- Settles O19: the reserved request is `raise ERR_OP`, whatever its code and data. -/
theorem reservedCodeRaisesErrOp : Obligations.ReservedCodeRaisesErrOp :=
  ⟨by decide, fun s op d _ => exec_rsvd op d s⟩

/-- Settles O21: the answer's code tells the request's error, and a zero operand is the error of the codes 0 and 1 on zero data. -/
theorem zeroOperandRaisesErrZero : Obligations.ZeroOperandRaisesErrZero := by
  intro s ha
  obtain ⟨t, ht⟩ := step_total s
  refine ⟨t, ht, ?_, fun hop hd => ?_⟩
  · rw [← requestError_request_zeroOperand_iff]
    exact exec_answers_code_iff (step_of_accepts ha ▸ ht) .zeroOperand
  · have herr := (requestError_request_zeroOperand_iff s.pins).mpr ⟨hop, hd⟩
    cases (step_of_requestError ha herr).symm.trans ht
    rfl

/-- Settles O22: the step is `raise` of the request's error, whose effect each field lemma of `raise` states. -/
theorem raiseAnswersAndSetsOneFlag : Obligations.RaiseAnswersAndSetsOneFlag := by
  intro s k ha hk
  obtain ⟨-, -, hb⟩ := (accepts_iff _ _).mp ha
  exact ⟨_, step_of_requestError ha hk, by simp [State.reqReady, hb]⟩

/-- An edge without reset leaves at least one flag alone: each flag records its own code, and a response has one code. -/
theorem RecordsError.keeps_a_flag {s t : State} (h : RecordsError s t) : t.fltZero = s.fltZero ∨ t.fltOp = s.fltOp := by
  obtain ⟨hzero, hop⟩ := h
  by_cases he : t.rspErr = errZero
  · exact .inr (by simp [hop, he, errZero, errOp])
  · exact .inl (by simp [hzero, he])

/-- Settles O23: a response has one code, a reserved code is an error whatever the data, and a reset edge accepts nothing. -/
theorem oneRequestRaisesAtMostOneFault : Obligations.OneRequestRaisesAtMostOneFault := by
  refine ⟨fun s t hr h => (step_recordsError hr h).keeps_a_flag, fun s ha hop => ?_, fun s hr => ?_⟩
  · exact ⟨_, step_of_requestError ha (requestError_of_reserved hop), rfl, rfl, rfl⟩
  · exact ⟨accepts_of_reset s hr, _, step_of_reset hr, rfl, rfl, rfl⟩

end Sys2Proof.Machine
end

section
/-! ### The reset and hazards family (70_reset_and_hazards.md): the reset edge, and what the flags record from then on -/
namespace Sys2Proof.Machine

/-! #### The reset edge (R140) -/

/-- Settles O28: a reset edge accepts nothing, and its next state is that of `resetRegisters`. -/
theorem resetEdgeHasPriorityOverEverything : Obligations.ResetEdgeHasPriorityOverEverything :=
  ⟨fun s hr => ⟨accepts_of_reset s hr, step_of_reset hr⟩, fun _ => rfl⟩

theorem edges_one_of_reset {s : State} (hr : s.pins.rst = true) : edges 1 s = .next s.nextPins.resetRegisters :=
  edges_succ 0 (step_of_reset hr)

/-! #### A step consumes one entry of the requester's list -/

@[simp] theorem State.scanStep_inputs (s : State) : s.scanStep.inputs = s.inputs := by
  unfold State.scanStep; split <;> simp

theorem exec_inputs {i : Instr} {s t : State} (h : exec i s = .next t) : t.inputs = s.inputs := by
  obtain ⟨k, rfl⟩ | ⟨w, -, -, rfl⟩ | ⟨d, rfl⟩ := exec_cases h <;> simp

theorem step_inputs {s t : State} (h : step s = .next t) : t.inputs = s.inputs.tail := by
  obtain ⟨-, rfl⟩ | ⟨-, -, rfl⟩ | ⟨-, -, -, he⟩ | ⟨-, -, -, rfl⟩ := edge_cases h
  · simp
  · simp
  · simpa using exec_inputs he
  · simp

/-- Whether a run is without reset is a matter of the requester's list alone, so it goes on so from the next state. -/
theorem noResetFor_succ_of_step {n : Nat} {s t : State} (h : step s = .next t) :
    NoResetFor (n + 1) s ↔ s.pins.rst = false ∧ NoResetFor n t := by
  rw [noResetFor_succ, NoResetFor, NoResetFor, step_inputs h, State.nextPins_inputs]

/-! #### The errors answered in a run, and the flags (R141) -/

/-- The response on the pins, if there is one, has this error code. -/
def State.AnswersError (s : State) (e : ErrCode) : Prop := s.response.map Response.err = some e

theorem State.answersError_iff (s : State) (e : ErrCode) :
    s.AnswersError e ↔ (s.rspValid && s.rspErr == e) = true := by
  cases hv : s.rspValid
  · simp [State.AnswersError, response_of_not_valid hv]
  · simp [State.AnswersError, response_of_valid hv]

/-- One of the next `n` edges answers with this error code. -/
def AnswersErrorWithin (e : ErrCode) (n : Nat) (s : State) : Prop :=
  ∃ k v, k < n ∧ edges (k + 1) s = .next v ∧ v.AnswersError e

theorem not_answersErrorWithin_zero (e : ErrCode) (s : State) : ¬ AnswersErrorWithin e 0 s := fun ⟨_, _, hk, _⟩ =>
  absurd hk (Nat.not_lt_zero _)

/-- The answers of `n + 1` edges are the one of the first edge, if any, and those of the `n` after it. -/
theorem answersErrorWithin_succ {e : ErrCode} {n : Nat} {s t : State} (h : step s = .next t) :
    AnswersErrorWithin e (n + 1) s ↔ t.AnswersError e ∨ AnswersErrorWithin e n t := by
  constructor
  · rintro ⟨_ | k, v, hk, hv, hve⟩
    · cases (edges_succ 0 h).symm.trans hv
      exact .inl hve
    · exact .inr ⟨k, v, Nat.lt_of_succ_lt_succ hk, edges_succ (k + 1) h ▸ hv, hve⟩
  · rintro (ht | ⟨k, v, hk, hv, hve⟩)
    · exact ⟨0, t, Nat.succ_pos n, edges_succ 0 h, ht⟩
    · exact ⟨k + 1, v, Nat.succ_lt_succ hk, (edges_succ (k + 1) h).trans hv, hve⟩

/-- An edge without reset sets this flag if it answers with this code, and otherwise keeps it. -/
def FlagOf (flag : State → Bool) (e : ErrCode) : Prop :=
  ∀ s t : State, s.pins.rst = false → step s = .next t → (flag t = true ↔ flag s = true ∨ t.AnswersError e)

theorem flagOf_fltZero : FlagOf State.fltZero errZero := fun s t hr h => by
  obtain ⟨hzero, -⟩ := step_recordsError hr h
  rw [hzero, Bool.or_eq_true, t.answersError_iff]

theorem flagOf_fltOp : FlagOf State.fltOp errOp := fun s t hr h => by
  obtain ⟨-, hop⟩ := step_recordsError hr h
  rw [hop, Bool.or_eq_true, t.answersError_iff]

/-- Over a run without reset a flag accumulates the answers with its code. -/
theorem FlagOf.iff_or_answers {flag : State → Bool} {e : ErrCode} (hflag : FlagOf flag e) {n : Nat} {s t : State}
    (hn : NoResetFor n s) (h : edges n s = .next t) : flag t = true ↔ flag s = true ∨ AnswersErrorWithin e n s := by
  induction n generalizing s with
  | zero =>
    cases h
    exact (or_iff_left (not_answersErrorWithin_zero e _)).symm
  | succ n ih =>
    obtain ⟨u, hu⟩ := step_total s
    obtain ⟨hr, hrest⟩ := (noResetFor_succ_of_step hu).mp hn
    calc flag t = true ↔ flag u = true ∨ AnswersErrorWithin e n u := ih hrest (edges_succ n hu ▸ h)
      _ ↔ (flag s = true ∨ u.AnswersError e) ∨ AnswersErrorWithin e n u := by rw [hflag s u hr hu]
      _ ↔ flag s = true ∨ AnswersErrorWithin e (n + 1) s := by rw [or_assoc, answersErrorWithin_succ hu]

/-- A flag that is 0 at the start of a run without reset is 1 at its end exactly if its error was answered. -/
theorem FlagOf.iff_answers_of_clear {flag : State → Bool} {e : ErrCode} (hflag : FlagOf flag e) {n : Nat} {s t : State}
    (hclear : flag s = false) (hn : NoResetFor n s) (h : edges n s = .next t) :
    flag t = true ↔ AnswersErrorWithin e n s := by
  rw [hflag.iff_or_answers hn h, hclear, or_iff_right Bool.false_ne_true]

/-- Settles O25: the reset edge clears both flags, and from there each accumulates the answers with its code. -/
theorem onlyResetClearsTheFlags : Obligations.OnlyResetClearsTheFlags := by
  intro n s u hr hu hn
  cases (edges_one_of_reset hr).symm.trans hu
  refine ⟨rfl, rfl, fun t ht => ⟨?_, ?_⟩⟩
  · exact flagOf_fltZero.iff_answers_of_clear rfl hn ht
  · exact flagOf_fltOp.iff_answers_of_clear rfl hn ht

end Sys2Proof.Machine
end

section
/-! ### The invariant of the machine (10_state.md section 8; 41_lsbscan.md R94) -/
namespace Sys2Proof.Machine

/-! #### The scan invariant through one iteration (R94) -/

theorem scanCnt_succ_toNat {c : Count} (h : c.toNat ≤ 64) : (c + 1).toNat = c.toNat + 1 := by
  bv_omega

/-- Under the scan invariant the test succeeds exactly when the counter has come to the answer. -/
theorem scanHit_iff_of_scanInv {s : State} {b : Nat} (h : ScanInv s) (hb : LowestSet s.scanW b)
    (hcnt : s.scanCnt.toNat ≤ b + 1) : s.scanHit = true ↔ s.scanCnt.toNat = b + 1 := by
  obtain ⟨hge, -⟩ := h.bounds
  have hlt := hb.1
  rw [scanHit_iff, h.mask, and_shiftLeft_one_ne_zero_iff _ (by omega), hb.bit_iff (by omega)]
  omega

/-- The start of a scan of a nonzero Word establishes the scan invariant. -/
theorem scanInv_startScan (s : State) {w : Word} (hw : w ≠ 0) : ScanInv (s.startScan w) := by
  obtain ⟨b, hb⟩ := exists_lowestSet hw
  have htested : ∀ j, j + 1 < (s.startScan w).scanCnt.toNat → (s.startScan w).scanW.getLsbD j = false := fun j hj =>
    absurd hj (by simp)
  exact ⟨rfl, htested, le_rfl, b, hb, Nat.succ_le_succ (Nat.zero_le b)⟩

/-- A failed test keeps the scan invariant: the counter has not come to the answer yet, so adding 1 does not pass it. -/
theorem scanInv_advanceScan {s : State} (h : ScanInv s) (hmiss : s.scanHit = false) : ScanInv s.advanceScan := by
  obtain ⟨hge, b, hb, hle⟩ := h.bounds
  have hne : s.scanCnt.toNat ≠ b + 1 := fun e => by simp [(scanHit_iff_of_scanInv h hb hle).mpr e] at hmiss
  have hlt := hb.1
  have hcnt : s.advanceScan.scanCnt.toNat = s.scanCnt.toNat + 1 := scanCnt_succ_toNat (by omega)
  refine ⟨?_, fun j hj => ?_, by omega, b, hb, by omega⟩
  · calc s.scanMask <<< 1 = 1#64 <<< (s.scanCnt.toNat - 1) <<< 1 := by rw [h.mask]
      _ = 1#64 <<< (s.scanCnt.toNat - 1 + 1) := (BitVec.shiftLeft_add _ _ _).symm
      _ = 1#64 <<< (s.advanceScan.scanCnt.toNat - 1) := by rw [hcnt, Nat.sub_add_cancel hge, Nat.add_sub_cancel]
  · exact hb.2.2 j (by omega)

/-! #### Each operation keeps the invariant -/

theorem errNone_ne_three : errNone ≠ 3 := by decide

theorem ErrorKind.code_ne_three (k : ErrorKind) : k.code ≠ 3 := by
  cases k <;> decide

theorem stateInv_nextPins {s : State} (h : StateInv s) : StateInv s.nextPins :=
  ⟨h.rom, fun hb => ⟨(h.scan hb).mask, (h.scan hb).tested, (h.scan hb).bounds⟩, h.quiet, h.err, h.errData, h.errZero,
    h.errOp⟩

theorem stateInv_resetWith {m : Memory} (h : m.wf = true) (inputs : List Pins) : StateInv (State.resetWith m inputs) :=
  ⟨h, nofun, nofun, errNone_ne_three, fun _ => rfl, nofun, nofun⟩

/-- An answer without an error, by a block with no scan in flight. -/
theorem stateInv_respond {s : State} (h : StateInv s) (hb : s.busy = false) (d : Word) :
    StateInv (s.respond d errNone) :=
  ⟨h.rom, by simp [hb], by simp [hb], errNone_ne_three, fun hne => absurd rfl hne, nofun, nofun⟩

theorem stateInv_raise {s : State} (h : StateInv s) (hb : s.busy = false) (k : ErrorKind) : StateInv (s.raise k) := by
  refine ⟨by simpa using h.rom, by simp [hb], by simp [hb], by simpa using k.code_ne_three, by simp, fun he => ?_,
    fun he => ?_⟩
  · have hk : k = .zeroOperand := ErrorKind.code_injective ((s.raise_rspErr k).symm.trans he)
    simp [hk]
  · have hk : k = .reservedOp := ErrorKind.code_injective ((s.raise_rspErr k).symm.trans he)
    simp [hk]

theorem stateInv_startScan {s : State} (h : StateInv s) {w : Word} (hw : w ≠ 0) : StateInv (s.startScan w) :=
  ⟨h.rom, fun _ => scanInv_startScan s hw, fun _ => rfl, h.err, h.errData, h.errZero, h.errOp⟩

theorem stateInv_noResponse {s : State} (h : StateInv s) (hb : s.busy = false) : StateInv s.noResponse :=
  ⟨h.rom, by simp [hb], fun _ => rfl, h.err, h.errData, h.errZero, h.errOp⟩

theorem stateInv_scanStep {s : State} (h : StateInv s) (hb : s.busy = true) : StateInv s.scanStep := by
  cases hhit : s.scanHit
  · rw [scanStep_miss hhit]
    exact ⟨h.rom, fun _ => scanInv_advanceScan (h.scan hb) hhit, fun _ => rfl, h.err, h.errData, h.errZero, h.errOp⟩
  · rw [scanStep_hit hhit]
    exact ⟨h.rom, nofun, nofun, errNone_ne_three, fun hne => absurd rfl hne, nofun, nofun⟩

theorem stateInv_exec {i : Instr} {s t : State} (h : StateInv s) (hb : s.busy = false) (he : exec i s = .next t) :
    StateInv t := by
  obtain ⟨k, rfl⟩ | ⟨w, -, hw, rfl⟩ | ⟨d, rfl⟩ := exec_cases he
  · exact stateInv_raise h hb k
  · exact stateInv_startScan h hw
  · exact stateInv_respond h hb d

/-- Settles O39: each of the four things an edge can do keeps the invariant; a failed test does by `scanInv_advanceScan`. -/
theorem everyEdgeKeepsTheInvariant : Obligations.EveryEdgeKeepsTheInvariant := by
  intro s t h hst
  have hn := stateInv_nextPins h
  obtain ⟨-, rfl⟩ | ⟨-, hb, rfl⟩ | ⟨-, hb, -, he⟩ | ⟨-, hb, -, rfl⟩ := edge_cases hst
  · exact stateInv_resetWith h.rom _
  · exact stateInv_scanStep hn hb
  · exact stateInv_exec hn hb he
  · exact stateInv_noResponse hn hb

/-- Settles O38: the registers are at their reset values, and the ROM is built from a valid constant. -/
theorem resetStateHasTheInvariant : Obligations.ResetStateHasTheInvariant := stateInv_resetWith reset_rom_wf []

end Sys2Proof.Machine
end

section
/-! ### Decoding and encoding are inverse (30_encoding.md sections 1 and 2), and a step runs what its word decodes to -/
namespace Sys2Proof

/-! #### From the request to its word and back -/

theorem romtIgnoredField_append (ignored : BitVec 58) (i : Index) : romtIgnoredField (ignored ++ i) = ignored :=
  BitVec.extractLsb'_append_eq_left

theorem romtIndexField_append (ignored : BitVec 58) (i : Index) : romtIndexField (ignored ++ i) = i :=
  BitVec.extractLsb'_append_eq_right

theorem decode_reqWord (op : OpCode) (d : Word) : decode (reqWord op d) = decodeFields op d := by
  simp [decode]

theorem decodeFields_opCode_dataWord {i : Instr} (h : i.wf = true) : decodeFields i.opCode i.dataWord = i := by
  cases i with
  | lsbmul w => exact decodeFields_zero w
  | lsbscan w => exact decodeFields_one w
  | romt ignored a =>
    rw [Instr.opCode, Instr.dataWord, decodeFields_two, romtIgnoredField_append, romtIndexField_append]
  | romc ignored => exact decodeFields_three ignored
  | rsvd op ignored => exact decodeFields_of_reserved h ignored

theorem decode_encode {i : Instr} (h : i.wf = true) : decode (encode i) = i := by
  rw [encode, decode_reqWord, decodeFields_opCode_dataWord h]

/-- Settles O46: the word's two fields are the request's code and data, and each code has its own equation of `decodeFields`. -/
theorem decodeOfEncodeIsTheRequest : Obligations.DecodeOfEncodeIsTheRequest := fun _ h => decode_encode h

/-- Settles O49: each word is the one its request is encoded to. -/
theorem wordsOfTheSpecDecode : Obligations.WordsOfTheSpecDecode :=
  ⟨decode_encode (i := .lsbmul 0x18) rfl, decode_encode (i := .lsbscan 0x14) rfl,
    decode_encode (i := .romt 0x3FFFFFFFFFFFFFF 7) rfl, decode_encode (i := .romc 0) rfl,
    decode_encode (i := .rsvd 5 0x18) rfl⟩

/-! #### From the word to its request and back -/

/-- The index of a `ROMT` request and the bits it ignores are all of its data (30_encoding.md R53). -/
theorem romtFields_append (d : Word) : romtIgnoredField d ++ romtIndexField d = d :=
  (BitVec.extractLsb'_append_extractLsb'_eq_extractLsb' rfl).trans BitVec.extractLsb'_eq_self

theorem decodeFields_wf (op : OpCode) (d : Word) : (decodeFields op d).wf = true := by
  cases hres : OpCode.reserved op
  · obtain rfl | rfl | rfl | rfl := not_reserved_cases op hres <;> rfl
  · rw [decodeFields_of_reserved hres]
    exact hres

theorem encode_decodeFields (op : OpCode) (d : Word) : encode (decodeFields op d) = reqWord op d := by
  cases hres : OpCode.reserved op
  · obtain rfl | rfl | rfl | rfl := not_reserved_cases op hres
    · rfl
    · rfl
    · exact congrArg (reqWord 2) (romtFields_append d)
    · rfl
  · rw [decodeFields_of_reserved hres]
    rfl

/-- Settles O47: no case of `decodeFields` loses a bit of the code or of the data. -/
theorem encodeOfDecodeIsTheWord : Obligations.EncodeOfDecodeIsTheWord := fun r =>
  ⟨decodeFields_wf _ _, (encode_decodeFields _ _).trans (reqWord_fields r)⟩

end Sys2Proof

namespace Sys2Proof.Machine

/-! #### The decoded request runs (R50; 70_reset_and_hazards.md R146) -/

theorem decodeTableWord_eq_some {nbits w : Nat} {i : Instr} (h : decodeTableWord nbits w = some i) :
    w % 2 ^ nbits < 2 ^ 67 ∧ decode (BitVec.ofNat 67 (w % 2 ^ nbits)) = i := by
  rw [decodeTableWord, decodeNat] at h
  split_ifs at h with hw
  exact ⟨hw, Option.some.inj h⟩

theorem step_withFetchWord {s : State} {nbits w : Nat} (hw : w % 2 ^ nbits < 2 ^ 67) :
    step (s.withFetchWord nbits w) = exec (decode (BitVec.ofNat 67 (w % 2 ^ nbits))) { s with busy := false } := by
  rw [State.withFetchWord, if_pos hw, ← request_ofWord]
  exact edge_accept rfl rfl rfl

/-- Settles O33: the accepted edge runs the request on the pins, and `withFetchWord` puts the word on them. -/
theorem acceptedWordRunsTheDecodedRequest : Obligations.AcceptedWordRunsTheDecodedRequest := by
  refine ⟨fun s i ha hi _ => ?_, fun s nbits w i h => ?_⟩
  · rw [← hi]
    exact step_of_accepts ha
  · obtain ⟨hw, rfl⟩ := decodeTableWord_eq_some h
    exact step_withFetchWord hw

end Sys2Proof.Machine
end

section
/-! ### What a valid constant gives (20_memory.md R32, R33), and LSBMUL on every block of the spec (40_lsbmul.md R70 to R76) -/
namespace Sys2Proof.Machine

/-! #### The index function and `ValidC` (R32) -/

theorem topIndex_toNat (prod : Word) : (topIndex prod).toNat = prod.toNat / 2 ^ 58 := by
  rw [topIndex_eq_extractLsb', BitVec.extractLsb'_toNat, Nat.shiftRight_eq_div_pow]
  have := prod.isLt
  omega

theorem deBruijnIndex_toNat (c : Word) {b : Nat} (hb : b < 64) :
    (deBruijnIndex c b).toNat = 2 ^ b * c.toNat % 2 ^ 64 / 2 ^ 58 := by
  rw [deBruijnIndex, topIndex_toNat, ← BitVec.twoPow_eq, BitVec.toNat_mul, BitVec.toNat_twoPow_of_lt hb]

theorem validConstant_iff (c : Word) : validConstant c = true ↔
    (∀ a b, a < 64 → b < 64 → deBruijnIndex c a = deBruijnIndex c b → a = b) ∧ deBruijnIndex c 0 = 0 := by
  constructor
  · intro h
    exact ⟨fun a b ha hb e => validConstant_distinct h ha hb e, validConstant_zero h⟩
  · rintro ⟨hinj, hzero⟩
    have hnodup : (bitPositions.map (deBruijnIndex c)).Nodup :=
      List.nodup_range.map_on fun a ha b hb e => hinj a b (List.mem_range.mp ha) (List.mem_range.mp hb) e
    simp [validConstant, hnodup, hzero]

theorem ushiftRight_58_eq_zero_iff (c : Word) : c >>> 58 = 0 ↔ c.toNat < 2 ^ 58 := by
  rw [← BitVec.toNat_inj, BitVec.toNat_ushiftRight, Nat.shiftRight_eq_div_pow]
  exact Nat.div_eq_zero_iff_lt (by decide)

theorem deBruijnIndex_zero_iff (c : Word) : deBruijnIndex c 0 = 0 ↔ c >>> 58 = 0 := by
  rw [ushiftRight_58_eq_zero_iff, ← BitVec.toNat_inj, deBruijnIndex_bit0, ← topIndex_eq_extractLsb', topIndex_toNat]
  exact Nat.div_eq_zero_iff_lt (by decide)

/-- Settles O1: the index is the product's quotient by `2 ^ 58`, and injectivity on the 64 positions is what `Nodup` says. -/
theorem validConstantIsDistinctIndicesAndTopBitsZero : Obligations.ValidConstantIsDistinctIndicesAndTopBitsZero :=
  ⟨fun c _ hb => deBruijnIndex_toNat c hb, validConstant_iff, deBruijnIndex_zero_iff, ushiftRight_58_eq_zero_iff,
    builtConstant_valid⟩

/-! #### The derived table is the inverse of the index function (R33) -/

theorem deBruijnIndex_read {m : Memory} (h : m.wf = true) (i : Index) : deBruijnIndex m.constant (m.read i).toNat = i :=
  (deBruijnIndex_eq_iff_read h (m.read i).isLt i).mpr (by rw [BitVec.ofNat_toNat, BitVec.setWidth_eq])

/-- Every index is that of some position: of the one the built table holds there. -/
theorem exists_deBruijnIndex_eq {c : Word} (h : validConstant c = true) (i : Index) :
    ∃ b, b < 64 ∧ deBruijnIndex c b = i :=
  ⟨_, ((Memory.build c).read i).isLt, deBruijnIndex_read (build_wf h) i⟩

/-- A table that records each position at its index is the derived one. -/
theorem eq_deriveTable_iff {c : Word} (h : validConstant c = true) (t : Vector Index 64) :
    (∀ b, b < 64 → t[(deBruijnIndex c b).toNat]'(deBruijnIndex c b).isLt = BitVec.ofNat 6 b) ↔ t = deriveTable c := by
  constructor
  · intro ht
    have hentry : ∀ i : Index, t[i.toNat]'i.isLt = (deriveTable c)[i.toNat]'i.isLt := fun i => by
      obtain ⟨b, hb, rfl⟩ := exists_deBruijnIndex_eq h i
      rw [ht b hb, deriveTable_deBruijnIndex h hb]
    exact Vector.ext fun i hi => hentry (BitVec.ofNatLT i hi)
  · rintro rfl b hb
    exact deriveTable_deBruijnIndex h hb

/-- Settles O2: the derivation loop records each position, and each index belongs to the one position its entry holds. -/
theorem derivedTableIsTheUniqueInverse : Obligations.DerivedTableIsTheUniqueInverse := fun _ h =>
  ⟨eq_deriveTable_iff h, deBruijnIndex_read (build_wf h), fun _ _ e => Memory.read_injective (build_wf h) e,
    Memory.read_zero (build_wf h)⟩

/-! #### The product and the entry it selects (40_lsbmul.md R72 to R74) -/

theorem deBruijnProduct_toNat (m : Memory) (w : Word) :
    (deBruijnProduct m w).toNat = (isolate w).toNat * m.constant.toNat % 2 ^ 64 :=
  BitVec.toNat_mul _ _

theorem deBruijnProduct_of_lowestSet (m : Memory) {w : Word} {b : Nat} (h : LowestSet w b) :
    deBruijnProduct m w = m.constant <<< b := by
  rw [deBruijnProduct, isolate_of_lowestSet h, ← BitVec.twoPow_eq, BitVec.twoPow_mul_eq_shiftLeft]

/-- Settles O6: isolation leaves `1 << b`, so the product is the constant shifted left by `b`. -/
theorem productTopBitsSelectTheEntry : Obligations.ProductTopBitsSelectTheEntry := by
  refine fun m w => ⟨deBruijnProduct_toNat m w, topIndex_toNat _, rfl, ?_, fun b h => ?_⟩
  · rintro rfl
    exact deBruijnProduct_zero m
  · exact ⟨deBruijnProduct_of_lowestSet m h, mulIndex_of_lowestSet m h⟩

/-! #### The answer of `LSBMUL` (40_lsbmul.md R70, R76) -/

theorem mulPath_of_lowestSet {m : Memory} (hm : m.wf = true) {w : Word} {b : Nat} (h : LowestSet w b) :
    mulPath m w = BitVec.ofNat 7 (b + 1) := by
  rw [← mulPath_toNat_of_read h (Memory.read_deBruijnIndex hm h.1), BitVec.ofNat_toNat, BitVec.setWidth_eq]

theorem countToData_ofNat {n : Nat} (h : n < 128) : countToData (BitVec.ofNat 7 n) = BitVec.ofNat 64 n :=
  BitVec.setWidth_ofNat_of_le_of_lt (by decide) h

/-- Settles O9: the multiply path of a ROM of the spec's form answers the position, and the request only writes the response. -/
theorem lsbmulAnswersLowestSetPosition : Obligations.LsbmulAnswersLowestSetPosition := by
  intro s w b hm h
  have hb := h.1
  rw [exec_lsbmul_of_ne_zero h.ne_zero, mulPath_of_lowestSet hm h, countToData_ofNat (by omega)]
  rfl

/-! #### No answer depends on the constant (40_lsbmul.md section 3) -/

theorem mulPath_eq_of_wf {m m' : Memory} (hm : m.wf = true) (hm' : m'.wf = true) (w : Word) :
    mulPath m w = mulPath m' w := by
  by_cases hw : w = 0
  · rw [hw, mulPath_zero hm, mulPath_zero hm']
  · obtain ⟨b, hb⟩ := exists_lowestSet hw
    rw [mulPath_of_lowestSet hm hb, mulPath_of_lowestSet hm' hb]

theorem exec_lsbmul_withRom {s t : State} {w : Word} {m : Memory} (hpath : mulPath s.rom w = mulPath m w)
    (h : exec (.lsbmul w) s = .next t) : exec (.lsbmul w) (s.withRom m) = .next (t.withRom m) := by
  by_cases hw : w = 0
  · subst hw
    cases (exec_lsbmul_zero s).symm.trans h
    rfl
  · cases (exec_lsbmul_of_ne_zero hw s).symm.trans h
    rw [exec_lsbmul_of_ne_zero hw, hpath]
    rfl

/-- Settles O43: on every ROM of the spec's form the multiply path has the same value, and `LSBSCAN` has no ROM in its answer. -/
theorem answersDoNotDependOnTheConstant : Obligations.AnswersDoNotDependOnTheConstant := by
  intro m m' w hm hm'
  have hpath := mulPath_eq_of_wf hm hm' w
  refine ⟨?_, rfl, fun s t h => exec_lsbmul_withRom (s := s.withRom m) hpath h⟩
  rw [respondTo, respondTo, requestValue, requestValue, hpath]

end Sys2Proof.Machine
end

section
/-! ### The whole edge (70_reset_and_hazards.md R151), what requests and scans leave unchanged, and runs of edges -/
namespace Sys2Proof.Machine

/-! #### The start of a scan, and its frame (41_lsbscan.md R91, R92) -/

/-- Settles O11: the request is `startScan`. -/
theorem lsbscanStartsTheScan : Obligations.LsbscanStartsTheScan := fun s _ hw => exec_lsbscan_of_ne_zero hw s

/-- Settles O37: the start and both branches of an iteration write no more than the rule says. -/
theorem frameOfTheScan : Obligations.FrameOfTheScan := by
  refine ⟨fun w s t hw h => ?_, fun s t hb hr h => ?_⟩
  · cases (exec_lsbscan_of_ne_zero hw s).symm.trans h
    simp
  · cases (step_of_busy hb hr).symm.trans h
    cases hhit : s.scanHit
    · rw [scanStep_miss (s := s.nextPins) hhit]
      simp [hb]
    · rw [scanStep_hit (s := s.nextPins) hhit]
      simp

/-! #### A request that answers at its acceptance edge, and its frame -/

/-- A request that raises no error and starts no scan answers its value at once (30_encoding.md R54). -/
theorem exec_of_value {i : Instr} (hn : requestError i = none) (hs : ¬ startsScan i) (s : State) :
    ∃ d, requestValue s.rom i = some d ∧ exec i s = .next (s.respond d errNone) := by
  cases i with
  | lsbmul w => exact ⟨_, rfl, exec_lsbmul_of_ne_zero (by simpa [requestError] using hn) s⟩
  | lsbscan w => exact absurd ⟨w, rfl, by simpa [requestError] using hn⟩ hs
  | romt ignored a => exact ⟨_, rfl, exec_romt ignored a s⟩
  | romc ignored => exact ⟨_, rfl, exec_romc ignored s⟩
  | rsvd op ignored => cases hn

theorem requestError_eq_zeroOperand_iff (i : Instr) :
    requestError i = some .zeroOperand ↔ i = .lsbmul 0 ∨ i = .lsbscan 0 := by
  cases i <;> simp [requestError]

theorem requestError_eq_reservedOp_iff (i : Instr) : requestError i = some .reservedOp ↔ ∃ op d, i = .rsvd op d := by
  cases i <;> simp [requestError]

/-- Settles O36: such a request is `raise` of the error it has, or the response with its value. -/
theorem frameOfRequestsThatAnswerAtOnce : Obligations.FrameOfRequestsThatAnswerAtOnce := by
  intro i s t hscan h
  cases herr : requestError i with
  | none =>
    have hs : ¬ startsScan i := fun ⟨w, hi, hw⟩ => hw (hscan w hi)
    obtain ⟨d, -, he⟩ := exec_of_value herr hs s
    cases he.symm.trans h
    simp
  | some k =>
    cases (exec_of_requestError herr s).symm.trans h
    cases k with
    | zeroOperand =>
      obtain rfl | rfl := (requestError_eq_zeroOperand_iff i).mp herr <;> simp
    | reservedOp =>
      obtain ⟨op, d, rfl⟩ := (requestError_eq_reservedOp_iff i).mp herr
      simp

/-! #### The response registers (10_state.md R16) -/

/-- Going from `s` to `t`, the edge writes no response and keeps `rsp_data` and `rsp_err`, or it writes one, with data 0 in an
error. -/
def WritesResponseOrKeeps (s t : State) : Prop :=
  (t.rspValid = false ∧ t.rspData = s.rspData ∧ t.rspErr = s.rspErr) ∨
  (t.rspValid = true ∧ (t.rspErr = errNone ∨ ∃ k : ErrorKind, t.rspErr = k.code ∧ t.rspData = 0))

theorem writesResponseOrKeeps_scanStep (s : State) : WritesResponseOrKeeps s s.scanStep := by
  cases hhit : s.scanHit
  · rw [scanStep_miss hhit]
    exact .inl ⟨rfl, rfl, rfl⟩
  · rw [scanStep_hit hhit]
    exact .inr ⟨rfl, .inl rfl⟩

theorem exec_writesResponseOrKeeps {i : Instr} {s t : State} (h : exec i s = .next t) : WritesResponseOrKeeps s t := by
  obtain ⟨k, rfl⟩ | ⟨w, -, -, rfl⟩ | ⟨d, rfl⟩ := exec_cases h
  · exact .inr ⟨s.raise_rspValid k, .inr ⟨k, s.raise_rspErr k, s.raise_rspData k⟩⟩
  · exact .inl ⟨rfl, rfl, rfl⟩
  · exact .inr ⟨rfl, .inl rfl⟩

theorem step_writesResponseOrKeeps {s t : State} (hr : s.pins.rst = false) (h : step s = .next t) :
    WritesResponseOrKeeps s t := by
  have hnext : WritesResponseOrKeeps s.nextPins t := by
    obtain ⟨hrst, -⟩ | ⟨-, -, rfl⟩ | ⟨-, -, -, he⟩ | ⟨-, -, -, rfl⟩ := edge_cases h
    · simp [hr] at hrst
    · exact writesResponseOrKeeps_scanStep _
    · exact exec_writesResponseOrKeeps he
    · exact .inl ⟨rfl, rfl, rfl⟩
  exact hnext

/-- Settles O31: of the two things an edge can do to the response registers, `rsp_valid` tells which it did. -/
theorem responseRegistersChangeOnlyWithAResponse : Obligations.ResponseRegistersChangeOnlyWithAResponse := by
  intro s t hr h
  obtain ⟨hv, hkeep⟩ | ⟨hv, hresp⟩ := step_writesResponseOrKeeps hr h
  · exact ⟨fun _ => hkeep, by simp [hv]⟩
  · refine ⟨by simp [hv], fun _ => ?_⟩
    obtain he | ⟨_ | _, he, hd⟩ := hresp
    · exact .inl he
    · exact .inr (.inl ⟨he, hd⟩)
    · exact .inr (.inr ⟨he, hd⟩)

/-! #### Pins that are not seen (70_reset_and_hazards.md R146) -/

theorem step_of_idle {s : State} (hr : s.pins.rst = false) (hb : s.busy = false) (hv : s.pins.reqValid = false) :
    step s = .next s.nextPins.noResponse := edge_idle hr hb hv

/-- An edge that makes a reset or an iteration reads no pin but `rst`. -/
theorem edge_congr_of_reset_or_busy {p q : Pins} {s : State} (hrst : p.rst = q.rst) (h : p.rst = true ∨ s.busy = true) :
    edge p s = edge q s := by
  cases hp : p.rst
  · have hb : s.busy = true := by simpa [hp] using h
    rw [edge_busy hp hb, edge_busy (hrst ▸ hp) hb]
  · rw [edge_reset s hp, edge_reset s (hrst ▸ hp)]

/-- Settles O32: the request pins are read in the third place only, and the idle edge is `noResponse`. -/
theorem unacceptedRequestIsNeverSeen : Obligations.UnacceptedRequestIsNeverSeen :=
  ⟨fun s p rest v op d h =>
      edge_congr_of_reset_or_busy (p := p) (q := ⟨p.rst, v, op, d⟩) (s := { s with inputs := rest }) rfl h,
    fun _ hr hb hv => step_of_idle hr hb hv⟩

/-! #### The edge function, every branch written out (70_reset_and_hazards.md R151) -/

/-- The state in which an accepted request leaves the block, as R151 writes it out. -/
def acceptedNext (s : State) (op : OpCode) (d : Word) : State :=
  if op.getLsbD 2 = true then { s with rspData := 0, rspErr := 2, rspValid := true, fltOp := true }
  else if (op = 0 ∨ op = 1) ∧ d = 0 then { s with rspData := 0, rspErr := 1, rspValid := true, fltZero := true }
  else if op = 0 then { s with rspData := (mulPath s.rom d).setWidth 64, rspErr := 0, rspValid := true }
  else if op = 1 then { s with scanW := d, scanMask := 1, scanCnt := 1, busy := true, rspValid := false }
  else if op = 2 then
    { s with rspData := (s.rom.read (d.extractLsb' 0 6)).setWidth 64, rspErr := 0, rspValid := true }
  else { s with rspData := s.rom.constant, rspErr := 0, rspValid := true }

theorem exec_decodeFields_eq_acceptedNext (op : OpCode) (d : Word) (s : State) :
    exec (decodeFields op d) s = .next (acceptedNext s op d) := by
  unfold acceptedNext
  split_ifs with hres hzero h0 h1 h2
  · rw [decodeFields_of_reserved hres]
    rfl
  · exact exec_of_requestError ((requestError_decodeFields_zeroOperand_iff op d).mpr hzero) s
  · subst h0
    rw [decodeFields_zero, exec_lsbmul_of_ne_zero fun hd => hzero ⟨.inl rfl, hd⟩]
    rfl
  · subst h1
    rw [decodeFields_one, exec_lsbscan_of_ne_zero fun hd => hzero ⟨.inr rfl, hd⟩]
    rfl
  · subst h2
    rw [decodeFields_two]
    rfl
  · obtain rfl : op = 3 :=
      (((not_reserved_cases op (Bool.eq_false_iff.mpr hres)).resolve_left h0).resolve_left h1).resolve_left h2
    rw [decodeFields_three]
    rfl

/-- Settles O34: each branch of R151 has its lemma about `edge`; the two branches of an iteration are O12, those of a request
`acceptedNext`. -/
theorem stepIsTheEdgeFunctionOfTheSpec : Obligations.StepIsTheEdgeFunctionOfTheSpec := by
  intro s p r
  by_cases hr : p.rst = true
  · rw [if_pos hr]
    exact step_of_reset hr
  rw [if_neg hr]
  have hr' : s.pins.rst = false := Bool.eq_false_iff.mpr hr
  by_cases hb : s.busy = true
  · rw [if_pos hb]
    obtain ⟨hiteration, -⟩ := scanIterationMakesOneTest
    exact hiteration s hb hr'
  rw [if_neg hb]
  have hb' : s.busy = false := Bool.eq_false_iff.mpr hb
  by_cases hv : p.reqValid = true
  · rw [if_pos hv]
    calc step s = exec s.pins.request s.nextPins := edge_accept hr' hb' hv
      _ = .next (acceptedNext s.nextPins p.reqOp p.reqData) := by
        rw [Pins.request_eq, exec_decodeFields_eq_acceptedNext]
  · rw [if_neg hv]
    exact step_of_idle hr' hb' (Bool.eq_false_iff.mpr hv)

/-! #### Runs (60_exceptions.md R123, R125, R126) -/

theorem edges_total (n : Nat) (s : State) : ∃ t, edges n s = .next t := by
  induction n generalizing s with
  | zero => exact ⟨s, rfl⟩
  | succ n ih =>
    obtain ⟨u, hu⟩ := step_total s
    rw [edges_succ n hu]
    exact ih u

/-- Settles O35: every edge goes on, so every run does. -/
theorem noRunEverStops : Obligations.NoRunEverStops := edges_total

/-! #### A reset abandons a scan (70_reset_and_hazards.md R142) -/

/-- An idle block without a response on its pins, with a requester that is silent for ever. -/
structure SilentIdle (s : State) : Prop where
  busy : s.busy = false
  rspValid : s.rspValid = false
  silent : ∀ p ∈ s.inputs, p.rst = false ∧ p.reqValid = false

theorem pins_of_silent {s : State} (h : ∀ p ∈ s.inputs, p.rst = false ∧ p.reqValid = false) :
    s.pins.rst = false ∧ s.pins.reqValid = false := by
  cases hs : s.inputs with
  | nil => simp [pins_nil s hs, Pins.idle]
  | cons p rest => exact pins_cons s p rest hs ▸ h p (by simp [hs])

theorem SilentIdle.step {s t : State} (h : SilentIdle s) (hst : step s = .next t) : SilentIdle t := by
  obtain ⟨hr, hv⟩ := pins_of_silent h.silent
  cases (step_of_idle hr h.busy hv).symm.trans hst
  exact ⟨h.busy, rfl, fun p hp => h.silent p (List.mem_of_mem_tail hp)⟩

/-- Settles O29: a reset edge overwrites every register, and leaves a block that a silent requester keeps idle. -/
theorem resetAbandonsTheScanForGood : Obligations.ResetAbandonsTheScanForGood := by
  refine ⟨fun s s' hrom hin hr => ?_, fun n s hr hsilent => ?_⟩
  · have hr' : s'.pins.rst = true := by rwa [State.pins, ← hin]
    rw [step_of_reset hr, step_of_reset hr', State.resetRegisters, State.resetRegisters, State.nextPins_rom,
      State.nextPins_rom, State.nextPins_inputs, State.nextPins_inputs, hrom, hin]
  · obtain ⟨t, ht⟩ := edges_total n s.nextPins.resetRegisters
    have hidle : SilentIdle t := edges_preserve (fun _ _ hu => hu.step) ⟨rfl, rfl, hsilent⟩ ht
    exact ⟨t, (edges_succ n (step_of_reset hr)).trans ht, hidle.busy, response_of_not_valid hidle.rspValid⟩

/-! #### The requester's contract (00_scope.md R4; 70_reset_and_hazards.md R145, R148) -/

/-- The sticky flag of an error. -/
def State.flag (s : State) : ErrorKind → Bool
  | .zeroOperand => s.fltZero
  | .reservedOp => s.fltOp

theorem RecordsError.flag_eq {s t : State} (h : RecordsError s t) (k : ErrorKind) :
    t.flag k = (s.flag k || (t.rspValid && t.rspErr == k.code)) := by
  obtain ⟨hzero, hop⟩ := h
  cases k
  · exact hzero
  · exact hop

/-- A flag that is 1 after an edge was 1 before it, or the edge accepted a request with its error. -/
theorem step_flag_cases {s t : State} {k : ErrorKind} (h : step s = .next t) (ht : t.flag k = true) :
    s.flag k = true ∨ accepts s.pins s = true ∧ requestError s.pins.request = some k := by
  obtain ⟨-, rfl⟩ | ⟨-, -, rfl⟩ | ⟨hr, hb, hv, he⟩ | ⟨-, -, -, rfl⟩ := edge_cases h
  · cases k <;> cases ht
  · exact .inl (by cases k <;> simpa [State.flag] using ht)
  · rw [(exec_recordsError he).flag_eq k, Bool.or_eq_true, Bool.and_eq_true, beq_iff_eq] at ht
    obtain hs | hresp := ht
    · exact .inl (by cases k <;> exact hs)
    · exact .inr ⟨(accepts_iff _ _).mpr ⟨hr, hv, hb⟩, (exec_answers_code_iff he k).mp hresp⟩
  · exact .inl (by cases k <;> exact ht)

/-- Where no request that a run accepts has an error, its flag stays 0. -/
theorem edges_flag_clear {ok : Pins → Bool} {k : ErrorKind} (hok : ∀ p, requestError p.request = some k → ok p = false)
    {n : Nat} {s t : State} (ha : AcceptsOnly ok n s) (hclear : s.flag k = false) (h : edges n s = .next t) :
    t.flag k = false := by
  induction n generalizing s with
  | zero =>
    cases h
    exact hclear
  | succ n ih =>
    obtain ⟨u, hu⟩ := step_total s
    obtain ⟨hfirst, hrest⟩ := (acceptsOnly_succ hu).mp ha
    refine ih hrest (Bool.eq_false_iff.mpr fun hflag => ?_) (edges_succ n hu ▸ h)
    obtain hs | ⟨hacc, herr⟩ := step_flag_cases hu hflag
    · simp [hclear] at hs
    · simpa [hok _ herr] using hfirst hacc

theorem inContract_of_zeroOperand (p : Pins) (h : requestError p.request = some .zeroOperand) : inContract p = false := by
  obtain ⟨hop, hd⟩ := (requestError_request_zeroOperand_iff p).mp h
  obtain hop | hop := hop <;> simp [inContract, hd, hop]

theorem namesOperation_of_reservedOp (p : Pins) (h : requestError p.request = some .reservedOp) :
    namesOperation p = false := by
  obtain ⟨op, d, hi⟩ := (requestError_eq_reservedOp_iff _).mp h
  rw [Pins.request_eq] at hi
  cases hres : OpCode.reserved p.reqOp
  · obtain hop | hop | hop | hop := not_reserved_cases _ hres <;> rw [hop] at hi <;> cases hi
  · simp [namesOperation, hres]

/-- Settles O26: by `edges_flag_clear`, once for each error and the part of the requester's behaviour that excludes it. -/
theorem contractKeptMeansNoFaultRecorded : Obligations.ContractKeptMeansNoFaultRecorded := by
  refine ⟨fun n s t ha hz h => ?_, fun n s t ha hn hs h => ?_⟩
  · exact edges_flag_clear (k := .zeroOperand) inContract_of_zeroOperand ha hz h
  · obtain ⟨hz, ho⟩ : s.fltZero = false ∧ s.fltOp = false := by simpa [faultFree] using hs
    have hz' : t.fltZero = false := edges_flag_clear (k := .zeroOperand) inContract_of_zeroOperand ha hz h
    have ho' : t.fltOp = false := edges_flag_clear (k := .reservedOp) namesOperation_of_reservedOp hn ho h
    simp [faultFree, hz', ho']

/-! #### Blocks side by side (60_exceptions.md R131) -/

/-- The state that the next edge leaves. -/
def State.afterStep (s : State) : State :=
  match step s with
  | .next t => t
  | .fault _ => s
  | .refused _ => s

theorem step_eq_afterStep (s : State) : step s = .next s.afterStep := by
  obtain ⟨t, ht⟩ := step_total s
  rw [State.afterStep, ht]

theorem stepBlock_eq_modify (bs : List State) (k : Nat) : stepBlock bs k = .next (bs.modify k State.afterStep) := by
  cases hk : bs[k]? with
  | none => simp [stepBlock, hk, List.modify_eq_self (List.getElem?_eq_none_iff.mp hk)]
  | some s => simp [stepBlock, hk, step_eq_afterStep, List.modify_eq_set_getElem?]

/-- Settles O45: an edge of a block modifies the list at its own number, and modifications at two numbers commute. -/
theorem blocksSideBySideAreIndependent : Obligations.BlocksSideBySideAreIndependent := by
  intro bs cs ds j k hjk hj hk
  cases (stepBlock_eq_modify bs j).symm.trans hj
  cases (stepBlock_eq_modify _ k).symm.trans hk
  refine ⟨List.getElem?_modify_ne _ _ hjk, _, stepBlock_eq_modify bs k, ?_⟩
  rw [stepBlock_eq_modify, List.modify_modify_ne _ _ _ hjk]

end Sys2Proof.Machine
end

section
/-! ### The scan from its start to its answer (41_lsbscan.md R93, R94) -/
namespace Sys2Proof.Machine

/-! #### The state before each test -/

/-- The block before the test of bit `k`. -/
def State.atTest (s : State) (k : Nat) : State :=
  { s with scanMask := 1#64 <<< k, scanCnt := BitVec.ofNat 7 (k + 1) }

theorem scanHit_atTest_iff {s : State} {b k : Nat} (h : LowestSet s.scanW b) (hk : k ≤ b) :
    (s.atTest k).scanHit = true ↔ k = b := by
  have hb := h.1
  exact (scanHit_iff _).trans ((and_shiftLeft_one_ne_zero_iff _ (by omega)).trans (h.bit_iff hk))

theorem scanStep_atTest_of_lt {s : State} {b k : Nat} (h : LowestSet s.scanW b) (hk : k < b) (hv : s.rspValid = false) :
    (s.atTest k).scanStep = s.atTest (k + 1) := by
  have hmiss : (s.atTest k).scanHit = false := Bool.eq_false_iff.mpr (mt (scanHit_atTest_iff h hk.le).mp hk.ne)
  rw [scanStep_miss hmiss]
  simp [State.atTest, State.advanceScan, BitVec.shiftLeft_add, BitVec.ofNat_add, hv]

theorem scanStep_atTest_lowestSet {s : State} {b : Nat} (h : LowestSet s.scanW b) :
    (s.atTest b).scanStep = (s.atTest b).endScan :=
  scanStep_hit ((scanHit_atTest_iff h le_rfl).mpr rfl)

theorem rspData_endScan_atTest (s : State) {b : Nat} (hb : b < 64) :
    (s.atTest b).endScan.rspData = BitVec.ofNat 64 (b + 1) :=
  countToData_ofNat (by omega)

/-! #### The run of the scan at the port (R93) -/

/-- The block after its requester has moved on by `k` edges. -/
def State.dropPins (s : State) (k : Nat) : State := { s with inputs := s.inputs.drop k }

theorem nextPins_dropPins (s : State) (k : Nat) : (s.dropPins k).nextPins = s.dropPins (k + 1) := by
  simp [State.dropPins, State.nextPins]

theorem dropPins_nextPins (s : State) (k : Nat) : s.nextPins.dropPins k = s.dropPins (k + 1) := by
  simp [State.dropPins, State.nextPins]

theorem pins_dropPins_rst {n k : Nat} {s : State} (h : NoResetFor n s) (hk : k < n) : (s.dropPins k).pins.rst = false := by
  induction n generalizing k s with
  | zero => omega
  | succ n ih =>
    obtain ⟨hrst, hrest⟩ := noResetFor_succ.mp h
    cases k with
    | zero => exact hrst
    | succ k =>
      rw [← dropPins_nextPins]
      exact ih hrest (Nat.lt_of_succ_lt_succ hk)

/-- Each of the first `k` tests fails, for `k` up to the position of the lowest set bit. -/
theorem edges_atTest {s : State} {b k n : Nat} (hb : s.busy = true) (hv : s.rspValid = false) (h : LowestSet s.scanW b)
    (hr : NoResetFor n s) (hkn : k ≤ n) (hkb : k ≤ b) : edges k (s.atTest 0) = .next ((s.dropPins k).atTest k) := by
  induction k with
  | zero => rfl
  | succ k ih =>
    calc edges (k + 1) (s.atTest 0) = step ((s.dropPins k).atTest k) := edges_succ_last k (ih (by omega) (by omega))
      _ = .next ((s.dropPins k).nextPins.atTest k).scanStep := step_of_busy hb (pins_dropPins_rst hr hkn)
      _ = .next ((s.dropPins (k + 1)).atTest (k + 1)) := by
        rw [nextPins_dropPins, scanStep_atTest_of_lt (s := s.dropPins (k + 1)) h hkb hv]

/-- The test after those succeeds. -/
theorem edges_endScan {s : State} {b : Nat} (hb : s.busy = true) (hv : s.rspValid = false) (h : LowestSet s.scanW b)
    (hr : NoResetFor (b + 1) s) : edges (b + 1) (s.atTest 0) = .next ((s.dropPins (b + 1)).atTest b).endScan :=
  calc edges (b + 1) (s.atTest 0) = step ((s.dropPins b).atTest b) :=
        edges_succ_last b (edges_atTest hb hv h hr (Nat.le_succ b) le_rfl)
    _ = .next ((s.dropPins b).nextPins.atTest b).scanStep := step_of_busy hb (pins_dropPins_rst hr (Nat.lt_succ_self b))
    _ = .next ((s.dropPins (b + 1)).atTest b).endScan := by
      rw [nextPins_dropPins, scanStep_atTest_lowestSet (s := s.dropPins (b + 1)) h]

theorem atTest_zero_of_start {s : State} (hmask : s.scanMask = 1) (hcnt : s.scanCnt = 1) : s.atTest 0 = s := by
  cases s
  cases hmask
  cases hcnt
  rfl

/-- Settles O13: `edges_atTest` gives the state before each test, and `edges_endScan` the state after the last. -/
theorem scanRunsToItsAnswer : Obligations.ScanRunsToItsAnswer := by
  intro s b hb hv hmask hcnt h hr
  have hstart := atTest_zero_of_start hmask hcnt
  refine ⟨fun k hk => ?_, ?_⟩
  · rw [← congrArg (edges k) hstart]
    exact edges_atTest hb hv h hr (by omega) hk
  · rw [← congrArg (edges (b + 1)) hstart, edges_endScan hb hv h hr, State.endScan, ← rspData_endScan_atTest s h.1]
    rfl

/-! #### The loop of the unit (R94) -/

/-- From the test of any bit up to the lowest set one, with enough tests left, the loop returns the position of that bit. -/
theorem scanLoop_of_lowestSet {w : Word} {b : Nat} (h : LowestSet w b) {n k : Nat} (hk : k ≤ b) (hn : b < k + n) :
    scanLoop n w (1#64 <<< k) (BitVec.ofNat 7 (k + 1)) = some (BitVec.ofNat 7 (b + 1)) := by
  induction n generalizing k with
  | zero => omega
  | succ n ih =>
    have hb := h.1
    have htest : (w &&& 1#64 <<< k != 0) = true ↔ k = b := by
      rw [bne_iff_ne, and_shiftLeft_one_ne_zero_iff w (by omega), h.bit_iff hk]
    rw [scanLoop]
    split_ifs with hset
    · rw [htest.mp hset]
    · have hne : k ≠ b := mt htest.mpr hset
      have hcnt : BitVec.ofNat 7 (k + 1) + 1 = BitVec.ofNat 7 (k + 1 + 1) := (BitVec.ofNat_add _ _).symm
      rw [← BitVec.shiftLeft_add, hcnt]
      exact ih (by omega) (by omega)

theorem scanPath_of_lowestSet {w : Word} {b : Nat} (h : LowestSet w b) : scanPath w = some (BitVec.ofNat 7 (b + 1)) :=
  scanLoop_of_lowestSet h (k := 0) (Nat.zero_le b) ((Nat.zero_add 64).symm ▸ h.1)

/-- Settles O14: the loop starts at bit 0 with a test for each of the 64 bits. -/
theorem scanPathReturnsLowestSetPosition : Obligations.ScanPathReturnsLowestSetPosition := fun _ _ h =>
  scanPath_of_lowestSet h

end Sys2Proof.Machine
end

section
/-! ### The two levels (10_state.md R19; 70_reset_and_hazards.md R150), and the block with its host (95_test_vectors.md section 3) -/
namespace Sys2Proof.Machine

/-! #### What the transaction level gives for each kind of request -/

theorem transact_of_error {i : Instr} {k : ErrorKind} (h : requestError i = some k) (m : Memory) (f : Flags) :
    transact m f i = (f.set k, some (errorResponse k)) := by
  rw [transact, flagsAfter, respondTo, h]

theorem transact_of_value {i : Instr} {m : Memory} {v : Word} (hn : requestError i = none)
    (hv : requestValue m i = some v) (f : Flags) : transact m f i = (f, some { data := v, err := errNone }) := by
  rw [transact, flagsAfter, respondTo, hn, hv]
  rfl

theorem requestError_lsbscan_of_ne_zero {w : Word} (hw : w ≠ 0) : requestError (.lsbscan w) = none := by
  simpa [requestError] using hw

theorem requestError_lsbmul_of_ne_zero {w : Word} (hw : w ≠ 0) : requestError (.lsbmul w) = none := by
  simpa [requestError] using hw

theorem requestValue_lsbscan_of_lowestSet (m : Memory) {w : Word} {b : Nat} (h : LowestSet w b) :
    requestValue m (.lsbscan w) = some (BitVec.ofNat 64 (b + 1)) := by
  have hb := h.1
  rw [requestValue, scanPath_of_lowestSet h, Option.map_some, countToData_ofNat (by omega)]

theorem requestValue_lsbmul_of_lowestSet {m : Memory} (hm : m.wf = true) {w : Word} {b : Nat} (h : LowestSet w b) :
    requestValue m (.lsbmul w) = some (BitVec.ofNat 64 (b + 1)) := by
  have hb := h.1
  rw [requestValue, mulPath_of_lowestSet hm h, countToData_ofNat (by omega)]

theorem responseEdge_of_not_startsScan {i : Instr} (h : ¬ startsScan i) : responseEdge i = 0 := by
  cases i with
  | lsbscan w =>
    have hw : w = 0 := by simpa [startsScan] using h
    simp [responseEdge, hw]
  | _ => rfl

theorem responseEdge_lsbscan_of_lowestSet {w : Word} {b : Nat} (h : LowestSet w b) : responseEdge (.lsbscan w) = b + 1 := by
  have hb := h.1
  have hlt : b + 1 < 128 := by omega
  simpa [responseEdge, operandIsZero_false h.ne_zero, scanPath_of_lowestSet h] using hlt

/-! #### An answer that refines the transaction level -/

/-- The block in `t` has answered the request `i`, accepted in `s`, as the transaction level does, and is idle. -/
structure Answered (s : State) (i : Instr) (t : State) : Prop where
  result : (t.flags, t.response) = transact s.rom s.flags i
  isSome : t.response.isSome = true
  busy : t.busy = false
  rom : t.rom = s.rom
  inputs : t.inputs = s.inputs

theorem answered_raise {s : State} {i : Instr} {k : ErrorKind} (hb : s.busy = false) (h : requestError i = some k) :
    Answered s i (s.raise k) := by
  have hresult : ((s.raise k).flags, (s.raise k).response) = (s.flags.set k, some (errorResponse k)) := by
    cases k <;> rfl
  exact ⟨hresult.trans (transact_of_error h _ _).symm, by simp [State.response], by simpa using hb, by simp, by simp⟩

theorem answered_respond {s : State} {i : Instr} {v : Word} (hb : s.busy = false) (hn : requestError i = none)
    (hv : requestValue s.rom i = some v) : Answered s i (s.respond v errNone) :=
  ⟨(transact_of_value hn hv _).symm, rfl, hb, rfl, rfl⟩

theorem answered_endScan (s : State) {w : Word} {b : Nat} (h : LowestSet w b) :
    Answered s (.lsbscan w) ((s.startScan w).atTest b).endScan := by
  have hresult :=
    transact_of_value (requestError_lsbscan_of_ne_zero h.ne_zero) (requestValue_lsbscan_of_lowestSet s.rom h) s.flags
  rw [← rspData_endScan_atTest (s.startScan w) h.1] at hresult
  exact ⟨hresult.symm, rfl, rfl, rfl, rfl⟩

/-- A request is answered at its acceptance edge, or it starts a scan of a Word with a lowest set bit. -/
theorem exec_answers_or_startsScan (i : Instr) {s : State} (hb : s.busy = false) :
    (responseEdge i = 0 ∧ ∃ t, exec i s = .next t ∧ Answered s i t) ∨ ∃ w b, i = .lsbscan w ∧ LowestSet w b := by
  by_cases hs : startsScan i
  · obtain ⟨w, hi, hw⟩ := hs
    obtain ⟨b, h⟩ := exists_lowestSet hw
    exact .inr ⟨w, b, hi, h⟩
  · refine .inl ⟨responseEdge_of_not_startsScan hs, ?_⟩
    cases herr : requestError i with
    | none =>
      obtain ⟨v, hv, he⟩ := exec_of_value herr hs s
      exact ⟨_, he, answered_respond hb herr hv⟩
    | some k => exact ⟨_, exec_of_requestError herr s, answered_raise hb herr⟩

/-! #### The edge level refines the transaction level (R19) -/

/-- The run of an accepted scan, from its acceptance on: silent and busy before each test, then the answer. -/
theorem edges_accepted_scan {s : State} {w : Word} {b : Nat} (ha : accepts s.pins s = true)
    (hi : s.pins.request = .lsbscan w) (h : LowestSet w b) (hr : NoResetFor (b + 2) s) :
    (∀ k, k ≤ b → edges (k + 1) s = .next (((s.nextPins.startScan w).dropPins k).atTest k)) ∧
    edges (b + 2) s = .next (((s.dropPins (b + 2)).startScan w).atTest b).endScan := by
  have hstart : step s = .next ((s.nextPins.startScan w).atTest 0) := by
    rw [step_of_accepts ha, hi, exec_lsbscan_of_ne_zero h.ne_zero, atTest_zero_of_start rfl rfl]
  obtain ⟨-, hrest⟩ := noResetFor_succ.mp hr
  refine ⟨fun k hk => ?_, ?_⟩
  · rw [edges_succ k hstart]
    exact edges_atTest rfl rfl h hrest (by omega) hk
  · rw [edges_succ (b + 1) hstart, ← dropPins_nextPins]
    exact edges_endScan rfl rfl h hrest

/-- Settles O40: a request answered at once is so by one edge, and a scan by `edges_accepted_scan`. -/
theorem edgeLevelRefinesTransactionLevel : Obligations.EdgeLevelRefinesTransactionLevel := by
  intro s i _ ha hi hr
  obtain ⟨-, -, hb⟩ := (accepts_iff _ _).mp ha
  obtain ⟨hedge, t, he, ht⟩ | ⟨w, b, rfl, h⟩ := exec_answers_or_startsScan i (s := s.nextPins) hb
  · have hstep : step s = .next t := by rw [step_of_accepts ha, hi, he]
    rw [hedge]
    exact ⟨by omega, t, edges_succ 0 hstep, ht.result, ht.isSome, ht.busy, ht.rom, by simp [ht.inputs]⟩
  · rw [responseEdge_lsbscan_of_lowestSet h] at hr ⊢
    obtain ⟨hbefore, hlast⟩ := edges_accepted_scan ha hi h hr
    have ht := answered_endScan (s.dropPins (b + 2)) h
    refine ⟨fun k hk1 hk => ?_, _, hlast, ht.result, ht.isSome, ht.busy, ht.rom, ht.inputs⟩
    obtain ⟨k, rfl⟩ := Nat.exists_eq_add_of_le' hk1
    exact ⟨_, hbefore k (by omega), rfl, rfl⟩

/-! #### The block with its host: one edge (95_test_vectors.md section 3) -/

theorem HostedBlock.pins_rst (h : HostedBlock) : h.pins.rst = false := by
  rw [HostedBlock.pins]
  split <;> rfl

/-- The host shows the next request of its script, and an idle block accepts and runs it. -/
theorem hosted_step_accept {s t : State} {i : Instr} (rest : List Instr) (taken : List Response) (hb : s.busy = false)
    (hi : i.wf = true) (h : exec i s = .next t) :
    HostedBlock.step { block := s, script := i :: rest, taken := taken } =
      .next { block := t, script := rest, taken := taken ++ t.response.toList } := by
  have hreq : (Pins.ofInstr i).request = i := (request_ofWord _).trans (decode_encode hi)
  have hedge : edge (Pins.ofInstr i) s = .next t := by rw [edge_accept rfl hb rfl, hreq, h]
  have hacc : accepts (Pins.ofInstr i) s = true := (accepts_iff _ _).mpr ⟨rfl, rfl, hb⟩
  simp [HostedBlock.step, HostedBlock.pins, hedge, hacc]

/-- While a scan runs the host issues nothing. -/
theorem hosted_step_busy {h : HostedBlock} (hb : h.block.busy = true) :
    h.step = .next { block := h.block.scanStep, script := h.script, taken := h.taken ++ h.block.scanStep.response.toList } := by
  have hedge := edge_busy h.pins_rst hb
  have hacc : accepts h.pins h.block = false := by simp [accepts, State.reqReady, hb]
  simp [HostedBlock.step, hedge, hacc]

/-! #### The block with its host: one request -/

theorem hosted_run_add {h h' : HostedBlock} {m : Nat} (n : Nat) (e : HostedBlock.run m h = .next h') :
    HostedBlock.run (m + n) h = HostedBlock.run n h' := by
  induction m generalizing h with
  | zero =>
    cases e
    rw [Nat.zero_add]
  | succ m ih =>
    rw [Nat.add_right_comm, HostedBlock.run]
    rw [HostedBlock.run] at e
    cases hs : h.step <;> rw [hs] at e
    · exact ih e
    · cases e
    · cases e

/-- A scan before the test of bit `k` is answered after the tests that are left, without a response before. -/
theorem hosted_run_scan {s : State} {b k n : Nat} (script : List Instr) (taken : List Response) (hb : s.busy = true)
    (hv : s.rspValid = false) (h : LowestSet s.scanW b) (hk : k + n = b) :
    HostedBlock.run (n + 1) { block := s.atTest k, script := script, taken := taken } =
      .next { block := (s.atTest b).endScan, script := script,
              taken := taken ++ (s.atTest b).endScan.response.toList } := by
  induction n generalizing k with
  | zero =>
    obtain rfl : k = b := hk
    rw [hosted_run_succ 0 (hosted_step_busy hb), scanStep_atTest_lowestSet h]
    rfl
  | succ n ih =>
    have hnone : (s.atTest (k + 1)).response = none := response_of_not_valid hv
    rw [hosted_run_succ (n + 1) (hosted_step_busy hb), scanStep_atTest_of_lt h (by omega) hv, hnone, Option.toList_none,
      List.append_nil]
    exact ih (by omega)

/-- The host's next request is answered as the transaction level does, in the number of edges of the latency table. -/
theorem hosted_run_request {s : State} {i : Instr} (rest : List Instr) (taken : List Response) (hb : s.busy = false)
    (hi : i.wf = true) :
    ∃ t, HostedBlock.run (responseEdge i + 1) { block := s, script := i :: rest, taken := taken } =
        .next { block := t, script := rest, taken := taken ++ t.response.toList } ∧ Answered s i t := by
  obtain ⟨hedge, t, he, ht⟩ | ⟨w, b, rfl, h⟩ := exec_answers_or_startsScan i hb
  · rw [hedge]
    exact ⟨t, hosted_run_succ 0 (hosted_step_accept rest taken hb hi he), ht⟩
  · have he := exec_lsbscan_of_ne_zero h.ne_zero s
    refine ⟨_, ?_, answered_endScan s h⟩
    rw [responseEdge_lsbscan_of_lowestSet h, hosted_run_succ (b + 1) (hosted_step_accept rest taken hb hi he)]
    calc HostedBlock.run (b + 1) ⟨s.startScan w, rest, taken ++ []⟩
        = HostedBlock.run (b + 1) ⟨(s.startScan w).atTest 0, rest, taken⟩ := by
          rw [List.append_nil, atTest_zero_of_start rfl rfl]
      _ = _ := hosted_run_scan rest taken rfl rfl h (Nat.zero_add b)

/-! #### The block with its host: a script -/

theorem Answered.respondTo_eq {s t : State} {i : Instr} (h : Answered s i t) : t.response = respondTo s.rom i :=
  congrArg Prod.snd h.result

theorem Answered.flags_eq {s t : State} {i : Instr} (h : Answered s i t) : t.flags = flagsAfter s.flags i :=
  congrArg Prod.fst h.result

theorem hosted_run_script {script : List Instr} {s : State} (taken : List Response) (hb : s.busy = false)
    (hwf : ∀ i ∈ script, i.wf = true) :
    ∃ h, HostedBlock.run (script.map fun i => responseEdge i + 1).sum { block := s, script := script, taken := taken } =
        .next h ∧
      h.script = [] ∧ h.block.busy = false ∧ h.taken.map some = taken.map some ++ script.map (respondTo s.rom) ∧
      h.block.flags = script.foldl flagsAfter s.flags ∧ h.block.rom = s.rom := by
  induction script generalizing s taken with
  | nil => exact ⟨_, rfl, rfl, hb, by simp, rfl, rfl⟩
  | cons i rest ih =>
    obtain ⟨hi, hrest⟩ := List.forall_mem_cons.mp hwf
    obtain ⟨t, hrun, ht⟩ := hosted_run_request rest taken hb hi
    obtain ⟨h, hrun', hscript, hbusy, htaken, hflags, hrom⟩ := ih (taken ++ t.response.toList) ht.busy hrest
    have hresp : t.response.toList.map some = [respondTo s.rom i] := by
      obtain ⟨r, hr⟩ := Option.isSome_iff_exists.mp ht.isSome
      rw [← ht.respondTo_eq, hr]
      rfl
    refine ⟨h, ?_, hscript, hbusy, ?_, ?_, hrom.trans ht.rom⟩
    · rw [List.map_cons, List.sum_cons, hosted_run_add _ hrun, hrun']
    · rw [htaken, List.map_append, hresp, ht.rom, List.map_cons, List.append_assoc, List.singleton_append]
    · rw [hflags, ht.flags_eq, List.foldl_cons]

/-- Settles O41: by induction on the script, request by request. -/
theorem scriptIsAnsweredInOrder : Obligations.ScriptIsAnsweredInOrder := fun _ _ _ hb hwf => hosted_run_script [] hb hwf

/-- The host ends a script with the responses of the transaction level, once these are known. -/
theorem hosted_run_taken {script : List Instr} {s : State} {responses : List Response} (hb : s.busy = false)
    (hwf : ∀ i ∈ script, i.wf = true) (hresp : script.map (respondTo s.rom) = responses.map some) :
    ∃ h, HostedBlock.run (script.map fun i => responseEdge i + 1).sum { block := s, script := script, taken := [] } =
        .next h ∧ h.taken = responses := by
  obtain ⟨h, hrun, -, -, htaken, -, -⟩ := hosted_run_script [] hb hwf
  exact ⟨h, hrun, (Option.some_injective _).list_map (htaken.trans hresp)⟩

/-! #### `LSBBOTH` (42_rom_ops.md R112) -/

theorem respondTo_of_value {i : Instr} {m : Memory} {v : Word} (hn : requestError i = none)
    (hv : requestValue m i = some v) : respondTo m i = some { data := v, err := errNone } :=
  congrArg Prod.snd (transact_of_value hn hv { zero := false, op := false })

/-- The host's two responses are equal when both requests have that response. -/
theorem hosted_run_lsbBoth {s : State} {w : Word} {r : Response} (hb : s.busy = false)
    (hmul : respondTo s.rom (.lsbmul w) = some r) (hscan : respondTo s.rom (.lsbscan w) = some r) :
    ∃ n h, HostedBlock.run n { block := s, script := lsbBoth w, taken := [] } = .next h ∧ h.taken = [r, r] ∧
      lsbBothAgrees h.taken = true := by
  have hwf : ∀ i ∈ lsbBoth w, i.wf = true := by simp [lsbBoth, Instr.wf]
  obtain ⟨h, hrun, htaken⟩ := hosted_run_taken (responses := [r, r]) hb hwf (by simp [lsbBoth, hmul, hscan])
  exact ⟨_, h, hrun, htaken, by simp [htaken, lsbBothAgrees]⟩

/-- Settles O42: at the transaction level both requests answer the zero fault, or the position of the lowest set bit. -/
theorem bothAlgorithmsAgreeAtThePort : Obligations.BothAlgorithmsAgreeAtThePort := by
  intro s w hm hb
  by_cases hw : w = 0
  · subst hw
    obtain ⟨n, h, hrun, htaken, hagree⟩ := hosted_run_lsbBoth (w := 0) (r := errorResponse .zeroOperand) hb rfl rfl
    exact ⟨n, h, _, hrun, htaken, hagree, fun _ => rfl, fun b h0 => absurd rfl h0.ne_zero⟩
  · obtain ⟨b, h⟩ := exists_lowestSet hw
    obtain ⟨n, hd, hrun, htaken, hagree⟩ := hosted_run_lsbBoth hb
      (respondTo_of_value (requestError_lsbmul_of_ne_zero hw) (requestValue_lsbmul_of_lowestSet hm h))
      (respondTo_of_value (requestError_lsbscan_of_ne_zero hw) (requestValue_lsbscan_of_lowestSet s.rom h))
    refine ⟨n, hd, _, hrun, htaken, hagree, fun h0 => absurd h0 hw, fun b' h' => ?_⟩
    have hlt := h'.1
    have hnat : (BitVec.ofNat 64 (b' + 1)).toNat = b' + 1 := by
      rw [BitVec.toNat_ofNat, Nat.mod_eq_of_lt (by omega)]
    obtain rfl := h.unique h'
    exact ⟨rfl, by simp only [hnat]; omega, by simp only [hnat]; omega⟩

/-! #### `ROMCHECK` (70_reset_and_hazards.md R144) -/

/-- The answer to `ROMT i`. -/
def entryResponse (m : Memory) (i : Nat) : Response := { data := entryToData (m.read (BitVec.ofNat 6 i)), err := errNone }

/-- The 65 answers to `ROMDUMP`. -/
def romDumpResponses (m : Memory) : List Response :=
  { data := m.constant, err := errNone } :: bitPositions.map (entryResponse m)

theorem romDump_respondTo (m : Memory) : romDump.map (respondTo m) = (romDumpResponses m).map some := by
  simp [romDump, romDumpResponses, Function.comp_def, respondTo, requestError, requestValue, romtRequest, entryResponse]

theorem romDump_wf : ∀ i ∈ romDump, i.wf = true := by
  simp [romDump, romtRequest, Instr.wf]

/-- The entry at the index of a position answers that position (20_memory.md R34). -/
theorem entryResponse_deBruijnIndex {m : Memory} (hm : m.wf = true) {b : Nat} (hb : b < 64) :
    (entryResponse m (deBruijnIndex m.constant b).toNat).data = BitVec.ofNat 64 b := by
  rw [entryResponse, BitVec.ofNat_toNat, BitVec.setWidth_eq, Memory.read_deBruijnIndex hm hb]
  exact BitVec.setWidth_ofNat_of_le_of_lt (w := 6) (by decide) hb

theorem romCheckPasses_romDumpResponses {m : Memory} (hm : m.wf = true) : romCheckPasses (romDumpResponses m) = true := by
  have hentry : ∀ b < 64, ((bitPositions.map (entryResponse m))[(deBruijnIndex m.constant b).toNat]?).map Response.data =
      some (BitVec.ofNat 64 b) := fun b hb => by
    rw [List.getElem?_map, bitPositions, List.getElem?_range (deBruijnIndex m.constant b).isLt, Option.map_some,
      Option.map_some, entryResponse_deBruijnIndex hm hb]
  rw [romDumpResponses, romCheckPasses, Bool.and_eq_true, List.all_eq_true]
  exact ⟨by simp [bitPositions], fun b hb => beq_iff_eq.mpr (hentry b (List.mem_range.mp hb))⟩

/-- Settles O44: the answers are the constant and the table, which is what the verdict compares with the index function. -/
theorem romCheckPassesOnAValidRom : Obligations.RomCheckPassesOnAValidRom := by
  intro s hm hb
  obtain ⟨h, hrun, htaken⟩ := hosted_run_taken hb romDump_wf (romDump_respondTo s.rom)
  exact ⟨h, hrun, htaken ▸ romCheckPasses_romDumpResponses hm⟩

end Sys2Proof.Machine
end
